-- ==== Sys2Proof/Word.lean ====
section
/-! DEFINITION. The word types of the H8/300H (spec 00_scope R12, 10_state R20, R30). -/

namespace Sys2Proof

/-- An 8-bit datum (`B`, R12). -/
abbrev Byte := BitVec 8

/-- A 16-bit datum (`W`, R12): an instruction word, a word operand. -/
abbrev Word := BitVec 16

/-- A 32-bit datum (`L`, R12): a general register. -/
abbrev Long := BitVec 32

/-- A 24-bit effective address (R65), also the width of PC (R30). -/
abbrev Addr := BitVec 24

end Sys2Proof
end

