-- ==== Sys2Proof/Config.lean ====
section
/-! DEFINITION. What the spec leaves open and nothing in the model fixes: the unconstrained draws `draw_N()`
(00_scope R17, 92_eei D2), what a device answers, and the values the bus returns where nothing answers (20_memory
R80). -/

namespace Sys2Proof.Config

/-- A draw (R17): an arbitrary value no rule constrains. `index` counts the steps of the run (State.draws),
`tag` tells the draws of one step apart. No body: nothing can be proved of its value. Assumption 1. -/
opaque freeBits (index tag : Nat) : BitVec 32

/-- One access on the bus, by the CPU or by another master (20_memory R71): a byte at a physical address, or the word
at an even one, which is one access and not two. -/
inductive BusAccess where
  | readByte (address : Nat)
  | readWord (address : Nat)
  | writeByte (address : Nat) (value : BitVec 8)
  | writeWord (address : Nat) (value : BitVec 16)
  deriving DecidableEq, Repr

/-- The read function of the device at an address (00_scope R9, R80): the byte it gives in step `index` after the
accesses of `log`, oldest first, in which its own and the other devices' reads and writes stand. No body: a device is
the product's. Assumption 6. -/
opaque deviceByte (index : Nat) (log : List BusAccess) (address : Nat) : BitVec 8

/-- Why a byte is read from the bus: an operand or stack or vector datum, the second and later words of the
instruction being executed, or the fetch of the first word of the next one. -/
inductive ReadPurpose where
  | data
  | extension
  | prefetch
  deriving DecidableEq, Repr

/-- The byte an unmapped address whose map says `complete` gives when it is read (R80): arbitrary in every step, for every
purpose and address. No body. Assumption 6. -/
opaque openBus (index : Nat) (purpose : ReadPurpose) (address : Nat) : BitVec 8

end Sys2Proof.Config
end

