-- ==== Sys2Proof/Syntax.lean ====
section
/-! DEFINITION. The syntax of the H8/300H: register names (30_encoding R104, R105) and one constructor for each row of
spec/opcode_table.json (30_encoding R127). An operand is already decoded: a register field is a register name, an
immediate, a displacement or an absolute address is the bit vector the encoding holds (R108, R109). -/

namespace Sys2Proof

/-- The eight 32-bit general registers (10_state R20); er7 is also the stack pointer (R23). -/
inductive ERn where
  | er0 | er1 | er2 | er3 | er4 | er5 | er6 | er7
  deriving DecidableEq, Repr

/-- Which byte of the 16-bit register Rn an 8-bit register name selects (10_state R21). -/
inductive ByteHalf where
  /-- RnH, bits 15 to 8 of ERn. -/
  | h
  /-- RnL, bits 7 to 0 of ERn. -/
  | l
  deriving DecidableEq, Repr

/-- Which word of ERn a 16-bit register name selects (10_state R21). -/
inductive WordHalf where
  /-- Rn, bits 15 to 0 of ERn. -/
  | r
  /-- En, bits 31 to 16 of ERn. -/
  | e
  deriving DecidableEq, Repr

/-- An 8-bit register name: R0H to R7H, R0L to R7L (R104). -/
structure R8 where
  n : ERn
  half : ByteHalf
  deriving DecidableEq, Repr

/-- A 16-bit register name: R0 to R7, E0 to E7 (R104). -/
structure R16 where
  n : ERn
  half : WordHalf
  deriving DecidableEq, Repr

/-- The instructions, one constructor for each row of spec/opcode_table.json, arguments in the order of the
assembler operands. Each docstring gives the row's mnemonic, its code and the rule of its meaning. -/
inductive Instr where
  /-- MOV.B Rs,Rd; code 0 C rs rd; R142. -/
  | movBRsRd (rs : R8) (rd : R8)
  /-- MOV.W Rs,Rd; code 0 D rs rd; R143. -/
  | movWRsRd (rs : R16) (rd : R16)
  /-- MOV.L ERs,ERd; code 0 F 1ers 0erd; R144. -/
  | movLERsERd (ers : ERn) (erd : ERn)
  /-- MOV.B #xx:8,Rd; code F rd imm8; R145. -/
  | movBImm8Rd (imm8 : Byte) (rd : R8)
  /-- MOV.B @ERs,Rd; code 6 8 0ers rd; R148. -/
  | movBAtERsRd (ers : ERn) (rd : R8)
  /-- MOV.B @(d:16,ERs),Rd; code 6 E 0ers rd disp16; R149. -/
  | movBD16ERsRd (disp16 : Word) (ers : ERn) (rd : R8)
  /-- MOV.B @(d:24,ERs),Rd; code 7 8 0ers 0 6 A 2 rd 0 0 disp24; R150. -/
  | movBD24ERsRd (disp24 : Addr) (ers : ERn) (rd : R8)
  /-- MOV.B @ERs+,Rd; code 6 C 0ers rd; R151. -/
  | movBPostERsRd (ers : ERn) (rd : R8)
  /-- MOV.B @aa:8,Rd; code 2 rd abs8; R152. -/
  | movBAbs8Rd (abs8 : Byte) (rd : R8)
  /-- MOV.B @aa:16,Rd; code 6 A 0 rd abs16; R153. -/
  | movBAbs16Rd (abs16 : Word) (rd : R8)
  /-- MOV.B @aa:24,Rd; code 6 A 2 rd 0 0 abs24; R154. -/
  | movBAbs24Rd (abs24 : Addr) (rd : R8)
  /-- MOV.W #xx:16,Rd; code 7 9 0 rd imm16; R146. -/
  | movWImm16Rd (imm16 : Word) (rd : R16)
  /-- MOV.W @ERs,Rd; code 6 9 0ers rd; R155. -/
  | movWAtERsRd (ers : ERn) (rd : R16)
  /-- MOV.W @(d:16,ERs),Rd; code 6 F 0ers rd disp16; R156. -/
  | movWD16ERsRd (disp16 : Word) (ers : ERn) (rd : R16)
  /-- MOV.W @(d:24,ERs),Rd; code 7 8 0ers 0 6 B 2 rd 0 0 disp24; R157. -/
  | movWD24ERsRd (disp24 : Addr) (ers : ERn) (rd : R16)
  /-- MOV.W @ERs+,Rd; code 6 D 0ers rd; R158. -/
  | movWPostERsRd (ers : ERn) (rd : R16)
  /-- MOV.W @aa:16,Rd; code 6 B 0 rd abs16; R159. -/
  | movWAbs16Rd (abs16 : Word) (rd : R16)
  /-- MOV.W @aa:24,Rd; code 6 B 2 rd 0 0 abs24; R160. -/
  | movWAbs24Rd (abs24 : Addr) (rd : R16)
  /-- MOV.L #xx:32,ERd; code 7 A 0 0erd imm32; R147. -/
  | movLImm32ERd (imm32 : Long) (erd : ERn)
  /-- MOV.L @ERs,ERd; code 0 1 0 0 6 9 0ers 0erd; R161. -/
  | movLAtERsERd (ers : ERn) (erd : ERn)
  /-- MOV.L @(d:16,ERs),ERd; code 0 1 0 0 6 F 0ers 0erd disp16; R162. -/
  | movLD16ERsERd (disp16 : Word) (ers : ERn) (erd : ERn)
  /-- MOV.L @(d:24,ERs),ERd; code 0 1 0 0 7 8 0ers 0 6 B 2 0erd 0 0 disp24; R163. -/
  | movLD24ERsERd (disp24 : Addr) (ers : ERn) (erd : ERn)
  /-- MOV.L @ERs+,ERd; code 0 1 0 0 6 D 0ers 0erd; R164. -/
  | movLPostERsERd (ers : ERn) (erd : ERn)
  /-- MOV.L @aa:16,ERd; code 0 1 0 0 6 B 0 0erd abs16; R165. -/
  | movLAbs16ERd (abs16 : Word) (erd : ERn)
  /-- MOV.L @aa:24,ERd; code 0 1 0 0 6 B 2 0erd 0 0 abs24; R166. -/
  | movLAbs24ERd (abs24 : Addr) (erd : ERn)
  /-- MOV.B Rs,@ERd; code 6 8 1erd rs; R167. -/
  | movBRsAtERd (rs : R8) (erd : ERn)
  /-- MOV.B Rs,@(d:16,ERd); code 6 E 1erd rs disp16; R168. -/
  | movBRsD16ERd (rs : R8) (disp16 : Word) (erd : ERn)
  /-- MOV.B Rs,@(d:24,ERd); code 7 8 0erd 0 6 A A rs 0 0 disp24; R169. -/
  | movBRsD24ERd (rs : R8) (disp24 : Addr) (erd : ERn)
  /-- MOV.B Rs,@-ERd; code 6 C 1erd rs; R170. -/
  | movBRsPreERd (rs : R8) (erd : ERn)
  /-- MOV.B Rs,@aa:8; code 3 rs abs8; R171. -/
  | movBRsAbs8 (rs : R8) (abs8 : Byte)
  /-- MOV.B Rs,@aa:16; code 6 A 8 rs abs16; R172. -/
  | movBRsAbs16 (rs : R8) (abs16 : Word)
  /-- MOV.B Rs,@aa:24; code 6 A A rs 0 0 abs24; R173. -/
  | movBRsAbs24 (rs : R8) (abs24 : Addr)
  /-- MOV.W Rs,@ERd; code 6 9 1erd rs; R174. -/
  | movWRsAtERd (rs : R16) (erd : ERn)
  /-- MOV.W Rs,@(d:16,ERd); code 6 F 1erd rs disp16; R175. -/
  | movWRsD16ERd (rs : R16) (disp16 : Word) (erd : ERn)
  /-- MOV.W Rs,@(d:24,ERd); code 7 8 0erd 0 6 B A rs 0 0 disp24; R176. -/
  | movWRsD24ERd (rs : R16) (disp24 : Addr) (erd : ERn)
  /-- MOV.W Rs,@-ERd; code 6 D 1erd rs; R177. -/
  | movWRsPreERd (rs : R16) (erd : ERn)
  /-- MOV.W Rs,@aa:16; code 6 B 8 rs abs16; R178. -/
  | movWRsAbs16 (rs : R16) (abs16 : Word)
  /-- MOV.W Rs,@aa:24; code 6 B A rs 0 0 abs24; R179. -/
  | movWRsAbs24 (rs : R16) (abs24 : Addr)
  /-- MOV.L ERs,@ERd; code 0 1 0 0 6 9 1erd 0ers; R180. -/
  | movLERsAtERd (ers : ERn) (erd : ERn)
  /-- MOV.L ERs,@(d:16,ERd); code 0 1 0 0 6 F 1erd 0ers disp16; R181. -/
  | movLERsD16ERd (ers : ERn) (disp16 : Word) (erd : ERn)
  /-- MOV.L ERs,@(d:24,ERd); code 0 1 0 0 7 8 1erd 0 6 B A 0ers 0 0 disp24; R182. -/
  | movLERsD24ERd (ers : ERn) (disp24 : Addr) (erd : ERn)
  /-- MOV.L ERs,@-ERd; code 0 1 0 0 6 D 1erd 0ers; R183. -/
  | movLERsPreERd (ers : ERn) (erd : ERn)
  /-- MOV.L ERs,@aa:16; code 0 1 0 0 6 B 8 0ers abs16; R184. -/
  | movLERsAbs16 (ers : ERn) (abs16 : Word)
  /-- MOV.L ERs,@aa:24; code 0 1 0 0 6 B A 0ers 0 0 abs24; R185. -/
  | movLERsAbs24 (ers : ERn) (abs24 : Addr)
  /-- MOVFPE @aa:16,Rd; code 6 A 4 rd abs16; R190. -/
  | movfpeAbs16Rd (abs16 : Word) (rd : R8)
  /-- MOVTPE Rs,@aa:16; code 6 A C rs abs16; R191. -/
  | movtpeRsAbs16 (rs : R8) (abs16 : Word)
  /-- POP.W Rn; code 6 D 7 rn; R186. -/
  | popWRn (rn : R16)
  /-- POP.L ERn; code 0 1 0 0 6 D 7 0ern; R187. -/
  | popLERn (ern : ERn)
  /-- PUSH.W Rn; code 6 D F rn; R188. -/
  | pushWRn (rn : R16)
  /-- PUSH.L ERn; code 0 1 0 0 6 D F 0ern; R189. -/
  | pushLERn (ern : ERn)
  /-- ADD.B #xx:8,Rd; code 8 rd imm8; R201. -/
  | addBImm8Rd (imm8 : Byte) (rd : R8)
  /-- ADD.B Rs,Rd; code 0 8 rs rd; R202. -/
  | addBRsRd (rs : R8) (rd : R8)
  /-- ADD.W #xx:16,Rd; code 7 9 1 rd imm16; R203. -/
  | addWImm16Rd (imm16 : Word) (rd : R16)
  /-- ADD.W Rs,Rd; code 0 9 rs rd; R204. -/
  | addWRsRd (rs : R16) (rd : R16)
  /-- ADD.L #xx:32,ERd; code 7 A 1 0erd imm32; R205. -/
  | addLImm32ERd (imm32 : Long) (erd : ERn)
  /-- ADD.L ERs,ERd; code 0 A 1ers 0erd; R206. -/
  | addLERsERd (ers : ERn) (erd : ERn)
  /-- ADDS #1,ERd; code 0 B 0 0erd; R207. -/
  | addsOneERd (erd : ERn)
  /-- ADDS #2,ERd; code 0 B 8 0erd; R208. -/
  | addsTwoERd (erd : ERn)
  /-- ADDS #4,ERd; code 0 B 9 0erd; R209. -/
  | addsFourERd (erd : ERn)
  /-- ADDX #xx:8,Rd; code 9 rd imm8; R210. -/
  | addxImm8Rd (imm8 : Byte) (rd : R8)
  /-- ADDX Rs,Rd; code 0 E rs rd; R211. -/
  | addxRsRd (rs : R8) (rd : R8)
  /-- CMP.B #xx:8,Rd; code A rd imm8; R212. -/
  | cmpBImm8Rd (imm8 : Byte) (rd : R8)
  /-- CMP.B Rs,Rd; code 1 C rs rd; R213. -/
  | cmpBRsRd (rs : R8) (rd : R8)
  /-- CMP.W #xx:16,Rd; code 7 9 2 rd imm16; R214. -/
  | cmpWImm16Rd (imm16 : Word) (rd : R16)
  /-- CMP.W Rs,Rd; code 1 D rs rd; R215. -/
  | cmpWRsRd (rs : R16) (rd : R16)
  /-- CMP.L #xx:32,ERd; code 7 A 2 0erd imm32; R216. -/
  | cmpLImm32ERd (imm32 : Long) (erd : ERn)
  /-- CMP.L ERs,ERd; code 1 F 1ers 0erd; R217. -/
  | cmpLERsERd (ers : ERn) (erd : ERn)
  /-- SUB.B Rs,Rd; code 1 8 rs rd; R218. -/
  | subBRsRd (rs : R8) (rd : R8)
  /-- SUB.W #xx:16,Rd; code 7 9 3 rd imm16; R219. -/
  | subWImm16Rd (imm16 : Word) (rd : R16)
  /-- SUB.W Rs,Rd; code 1 9 rs rd; R220. -/
  | subWRsRd (rs : R16) (rd : R16)
  /-- SUB.L #xx:32,ERd; code 7 A 3 0erd imm32; R221. -/
  | subLImm32ERd (imm32 : Long) (erd : ERn)
  /-- SUB.L ERs,ERd; code 1 A 1ers 0erd; R222. -/
  | subLERsERd (ers : ERn) (erd : ERn)
  /-- SUBS #1,ERd; code 1 B 0 0erd; R223. -/
  | subsOneERd (erd : ERn)
  /-- SUBS #2,ERd; code 1 B 8 0erd; R224. -/
  | subsTwoERd (erd : ERn)
  /-- SUBS #4,ERd; code 1 B 9 0erd; R225. -/
  | subsFourERd (erd : ERn)
  /-- SUBX #xx:8,Rd; code B rd imm8; R226. -/
  | subxImm8Rd (imm8 : Byte) (rd : R8)
  /-- SUBX Rs,Rd; code 1 E rs rd; R227. -/
  | subxRsRd (rs : R8) (rd : R8)
  /-- DAA Rd; code 0 F 0 rd; R228. -/
  | daaRd (rd : R8)
  /-- DAS Rd; code 1 F 0 rd; R229. -/
  | dasRd (rd : R8)
  /-- INC.B Rd; code 0 A 0 rd; R230. -/
  | incBRd (rd : R8)
  /-- INC.W #1,Rd; code 0 B 5 rd; R231. -/
  | incWOneRd (rd : R16)
  /-- INC.W #2,Rd; code 0 B D rd; R232. -/
  | incWTwoRd (rd : R16)
  /-- INC.L #1,ERd; code 0 B 7 0erd; R233. -/
  | incLOneERd (erd : ERn)
  /-- INC.L #2,ERd; code 0 B F 0erd; R234. -/
  | incLTwoERd (erd : ERn)
  /-- DEC.B Rd; code 1 A 0 rd; R235. -/
  | decBRd (rd : R8)
  /-- DEC.W #1,Rd; code 1 B 5 rd; R236. -/
  | decWOneRd (rd : R16)
  /-- DEC.W #2,Rd; code 1 B D rd; R237. -/
  | decWTwoRd (rd : R16)
  /-- DEC.L #1,ERd; code 1 B 7 0erd; R238. -/
  | decLOneERd (erd : ERn)
  /-- DEC.L #2,ERd; code 1 B F 0erd; R239. -/
  | decLTwoERd (erd : ERn)
  /-- NEG.B Rd; code 1 7 8 rd; R240. -/
  | negBRd (rd : R8)
  /-- NEG.W Rd; code 1 7 9 rd; R241. -/
  | negWRd (rd : R16)
  /-- NEG.L ERd; code 1 7 B 0erd; R242. -/
  | negLERd (erd : ERn)
  /-- EXTU.W Rd; code 1 7 5 rd; R243. -/
  | extuWRd (rd : R16)
  /-- EXTU.L ERd; code 1 7 7 0erd; R244. -/
  | extuLERd (erd : ERn)
  /-- EXTS.W Rd; code 1 7 D rd; R245. -/
  | extsWRd (rd : R16)
  /-- EXTS.L ERd; code 1 7 F 0erd; R246. -/
  | extsLERd (erd : ERn)
  /-- MULXU.B Rs,Rd; code 5 0 rs rd; R247. -/
  | mulxuBRsRd (rs : R8) (rd : R16)
  /-- MULXU.W Rs,ERd; code 5 2 rs 0erd; R248. -/
  | mulxuWRsERd (rs : R16) (erd : ERn)
  /-- MULXS.B Rs,Rd; code 0 1 C 0 5 0 rs rd; R249. -/
  | mulxsBRsRd (rs : R8) (rd : R16)
  /-- MULXS.W Rs,ERd; code 0 1 C 0 5 2 rs 0erd; R250. -/
  | mulxsWRsERd (rs : R16) (erd : ERn)
  /-- DIVXU.B Rs,Rd; code 5 1 rs rd; R251. -/
  | divxuBRsRd (rs : R8) (rd : R16)
  /-- DIVXU.W Rs,ERd; code 5 3 rs 0erd; R252. -/
  | divxuWRsERd (rs : R16) (erd : ERn)
  /-- DIVXS.B Rs,Rd; code 0 1 D 0 5 1 rs rd; R253. -/
  | divxsBRsRd (rs : R8) (rd : R16)
  /-- DIVXS.W Rs,ERd; code 0 1 D 0 5 3 rs 0erd; R254. -/
  | divxsWRsERd (rs : R16) (erd : ERn)
  /-- AND.B #xx:8,Rd; code E rd imm8; R281. -/
  | andBImm8Rd (imm8 : Byte) (rd : R8)
  /-- AND.B Rs,Rd; code 1 6 rs rd; R282. -/
  | andBRsRd (rs : R8) (rd : R8)
  /-- AND.W #xx:16,Rd; code 7 9 6 rd imm16; R283. -/
  | andWImm16Rd (imm16 : Word) (rd : R16)
  /-- AND.W Rs,Rd; code 6 6 rs rd; R284. -/
  | andWRsRd (rs : R16) (rd : R16)
  /-- AND.L #xx:32,ERd; code 7 A 6 0erd imm32; R285. -/
  | andLImm32ERd (imm32 : Long) (erd : ERn)
  /-- AND.L ERs,ERd; code 0 1 F 0 6 6 0ers 0erd; R286. -/
  | andLERsERd (ers : ERn) (erd : ERn)
  /-- OR.B #xx:8,Rd; code C rd imm8; R287. -/
  | orBImm8Rd (imm8 : Byte) (rd : R8)
  /-- OR.B Rs,Rd; code 1 4 rs rd; R288. -/
  | orBRsRd (rs : R8) (rd : R8)
  /-- OR.W #xx:16,Rd; code 7 9 4 rd imm16; R289. -/
  | orWImm16Rd (imm16 : Word) (rd : R16)
  /-- OR.W Rs,Rd; code 6 4 rs rd; R290. -/
  | orWRsRd (rs : R16) (rd : R16)
  /-- OR.L #xx:32,ERd; code 7 A 4 0erd imm32; R291. -/
  | orLImm32ERd (imm32 : Long) (erd : ERn)
  /-- OR.L ERs,ERd; code 0 1 F 0 6 4 0ers 0erd; R292. -/
  | orLERsERd (ers : ERn) (erd : ERn)
  /-- XOR.B #xx:8,Rd; code D rd imm8; R293. -/
  | xorBImm8Rd (imm8 : Byte) (rd : R8)
  /-- XOR.B Rs,Rd; code 1 5 rs rd; R294. -/
  | xorBRsRd (rs : R8) (rd : R8)
  /-- XOR.W #xx:16,Rd; code 7 9 5 rd imm16; R295. -/
  | xorWImm16Rd (imm16 : Word) (rd : R16)
  /-- XOR.W Rs,Rd; code 6 5 rs rd; R296. -/
  | xorWRsRd (rs : R16) (rd : R16)
  /-- XOR.L #xx:32,ERd; code 7 A 5 0erd imm32; R297. -/
  | xorLImm32ERd (imm32 : Long) (erd : ERn)
  /-- XOR.L ERs,ERd; code 0 1 F 0 6 5 0ers 0erd; R298. -/
  | xorLERsERd (ers : ERn) (erd : ERn)
  /-- NOT.B Rd; code 1 7 0 rd; R299. -/
  | notBRd (rd : R8)
  /-- NOT.W Rd; code 1 7 1 rd; R300. -/
  | notWRd (rd : R16)
  /-- NOT.L ERd; code 1 7 3 0erd; R301. -/
  | notLERd (erd : ERn)
  /-- SHAL.B Rd; code 1 0 8 rd; R303. -/
  | shalBRd (rd : R8)
  /-- SHAL.W Rd; code 1 0 9 rd; R304. -/
  | shalWRd (rd : R16)
  /-- SHAL.L ERd; code 1 0 B 0erd; R305. -/
  | shalLERd (erd : ERn)
  /-- SHAR.B Rd; code 1 1 8 rd; R306. -/
  | sharBRd (rd : R8)
  /-- SHAR.W Rd; code 1 1 9 rd; R307. -/
  | sharWRd (rd : R16)
  /-- SHAR.L ERd; code 1 1 B 0erd; R308. -/
  | sharLERd (erd : ERn)
  /-- SHLL.B Rd; code 1 0 0 rd; R309. -/
  | shllBRd (rd : R8)
  /-- SHLL.W Rd; code 1 0 1 rd; R310. -/
  | shllWRd (rd : R16)
  /-- SHLL.L ERd; code 1 0 3 0erd; R311. -/
  | shllLERd (erd : ERn)
  /-- SHLR.B Rd; code 1 1 0 rd; R312. -/
  | shlrBRd (rd : R8)
  /-- SHLR.W Rd; code 1 1 1 rd; R313. -/
  | shlrWRd (rd : R16)
  /-- SHLR.L ERd; code 1 1 3 0erd; R314. -/
  | shlrLERd (erd : ERn)
  /-- ROTL.B Rd; code 1 2 8 rd; R315. -/
  | rotlBRd (rd : R8)
  /-- ROTL.W Rd; code 1 2 9 rd; R316. -/
  | rotlWRd (rd : R16)
  /-- ROTL.L ERd; code 1 2 B 0erd; R317. -/
  | rotlLERd (erd : ERn)
  /-- ROTR.B Rd; code 1 3 8 rd; R318. -/
  | rotrBRd (rd : R8)
  /-- ROTR.W Rd; code 1 3 9 rd; R319. -/
  | rotrWRd (rd : R16)
  /-- ROTR.L ERd; code 1 3 B 0erd; R320. -/
  | rotrLERd (erd : ERn)
  /-- ROTXL.B Rd; code 1 2 0 rd; R321. -/
  | rotxlBRd (rd : R8)
  /-- ROTXL.W Rd; code 1 2 1 rd; R322. -/
  | rotxlWRd (rd : R16)
  /-- ROTXL.L ERd; code 1 2 3 0erd; R323. -/
  | rotxlLERd (erd : ERn)
  /-- ROTXR.B Rd; code 1 3 0 rd; R324. -/
  | rotxrBRd (rd : R8)
  /-- ROTXR.W Rd; code 1 3 1 rd; R325. -/
  | rotxrWRd (rd : R16)
  /-- ROTXR.L ERd; code 1 3 3 0erd; R326. -/
  | rotxrLERd (erd : ERn)
  /-- BSET #xx:3,Rd; code 7 0 0imm3 rd; R343. -/
  | bsetImm3Rd (imm3 : BitVec 3) (rd : R8)
  /-- BSET #xx:3,@ERd; code 7 D 0erd 0 7 0 0imm3 0; R343. -/
  | bsetImm3AtERd (imm3 : BitVec 3) (erd : ERn)
  /-- BSET #xx:3,@aa:8; code 7 F abs8 7 0 0imm3 0; R343. -/
  | bsetImm3Abs8 (imm3 : BitVec 3) (abs8 : Byte)
  /-- BSET Rn,Rd; code 6 0 rn rd; R343. -/
  | bsetRnRd (rn : R8) (rd : R8)
  /-- BSET Rn,@ERd; code 7 D 0erd 0 6 0 rn 0; R343. -/
  | bsetRnAtERd (rn : R8) (erd : ERn)
  /-- BSET Rn,@aa:8; code 7 F abs8 6 0 rn 0; R343. -/
  | bsetRnAbs8 (rn : R8) (abs8 : Byte)
  /-- BCLR #xx:3,Rd; code 7 2 0imm3 rd; R344. -/
  | bclrImm3Rd (imm3 : BitVec 3) (rd : R8)
  /-- BCLR #xx:3,@ERd; code 7 D 0erd 0 7 2 0imm3 0; R344. -/
  | bclrImm3AtERd (imm3 : BitVec 3) (erd : ERn)
  /-- BCLR #xx:3,@aa:8; code 7 F abs8 7 2 0imm3 0; R344. -/
  | bclrImm3Abs8 (imm3 : BitVec 3) (abs8 : Byte)
  /-- BCLR Rn,Rd; code 6 2 rn rd; R344. -/
  | bclrRnRd (rn : R8) (rd : R8)
  /-- BCLR Rn,@ERd; code 7 D 0erd 0 6 2 rn 0; R344. -/
  | bclrRnAtERd (rn : R8) (erd : ERn)
  /-- BCLR Rn,@aa:8; code 7 F abs8 6 2 rn 0; R344. -/
  | bclrRnAbs8 (rn : R8) (abs8 : Byte)
  /-- BNOT #xx:3,Rd; code 7 1 0imm3 rd; R345. -/
  | bnotImm3Rd (imm3 : BitVec 3) (rd : R8)
  /-- BNOT #xx:3,@ERd; code 7 D 0erd 0 7 1 0imm3 0; R345. -/
  | bnotImm3AtERd (imm3 : BitVec 3) (erd : ERn)
  /-- BNOT #xx:3,@aa:8; code 7 F abs8 7 1 0imm3 0; R345. -/
  | bnotImm3Abs8 (imm3 : BitVec 3) (abs8 : Byte)
  /-- BNOT Rn,Rd; code 6 1 rn rd; R345. -/
  | bnotRnRd (rn : R8) (rd : R8)
  /-- BNOT Rn,@ERd; code 7 D 0erd 0 6 1 rn 0; R345. -/
  | bnotRnAtERd (rn : R8) (erd : ERn)
  /-- BNOT Rn,@aa:8; code 7 F abs8 6 1 rn 0; R345. -/
  | bnotRnAbs8 (rn : R8) (abs8 : Byte)
  /-- BTST #xx:3,Rd; code 7 3 0imm3 rd; R346. -/
  | btstImm3Rd (imm3 : BitVec 3) (rd : R8)
  /-- BTST #xx:3,@ERd; code 7 C 0erd 0 7 3 0imm3 0; R346. -/
  | btstImm3AtERd (imm3 : BitVec 3) (erd : ERn)
  /-- BTST #xx:3,@aa:8; code 7 E abs8 7 3 0imm3 0; R346. -/
  | btstImm3Abs8 (imm3 : BitVec 3) (abs8 : Byte)
  /-- BTST Rn,Rd; code 6 3 rn rd; R346. -/
  | btstRnRd (rn : R8) (rd : R8)
  /-- BTST Rn,@ERd; code 7 C 0erd 0 6 3 rn 0; R346. -/
  | btstRnAtERd (rn : R8) (erd : ERn)
  /-- BTST Rn,@aa:8; code 7 E abs8 6 3 rn 0; R346. -/
  | btstRnAbs8 (rn : R8) (abs8 : Byte)
  /-- BAND #xx:3,Rd; code 7 6 0imm3 rd; R347. -/
  | bandImm3Rd (imm3 : BitVec 3) (rd : R8)
  /-- BAND #xx:3,@ERd; code 7 C 0erd 0 7 6 0imm3 0; R347. -/
  | bandImm3AtERd (imm3 : BitVec 3) (erd : ERn)
  /-- BAND #xx:3,@aa:8; code 7 E abs8 7 6 0imm3 0; R347. -/
  | bandImm3Abs8 (imm3 : BitVec 3) (abs8 : Byte)
  /-- BIAND #xx:3,Rd; code 7 6 1imm3 rd; R348. -/
  | biandImm3Rd (imm3 : BitVec 3) (rd : R8)
  /-- BIAND #xx:3,@ERd; code 7 C 0erd 0 7 6 1imm3 0; R348. -/
  | biandImm3AtERd (imm3 : BitVec 3) (erd : ERn)
  /-- BIAND #xx:3,@aa:8; code 7 E abs8 7 6 1imm3 0; R348. -/
  | biandImm3Abs8 (imm3 : BitVec 3) (abs8 : Byte)
  /-- BOR #xx:3,Rd; code 7 4 0imm3 rd; R349. -/
  | borImm3Rd (imm3 : BitVec 3) (rd : R8)
  /-- BOR #xx:3,@ERd; code 7 C 0erd 0 7 4 0imm3 0; R349. -/
  | borImm3AtERd (imm3 : BitVec 3) (erd : ERn)
  /-- BOR #xx:3,@aa:8; code 7 E abs8 7 4 0imm3 0; R349. -/
  | borImm3Abs8 (imm3 : BitVec 3) (abs8 : Byte)
  /-- BIOR #xx:3,Rd; code 7 4 1imm3 rd; R350. -/
  | biorImm3Rd (imm3 : BitVec 3) (rd : R8)
  /-- BIOR #xx:3,@ERd; code 7 C 0erd 0 7 4 1imm3 0; R350. -/
  | biorImm3AtERd (imm3 : BitVec 3) (erd : ERn)
  /-- BIOR #xx:3,@aa:8; code 7 E abs8 7 4 1imm3 0; R350. -/
  | biorImm3Abs8 (imm3 : BitVec 3) (abs8 : Byte)
  /-- BXOR #xx:3,Rd; code 7 5 0imm3 rd; R351. -/
  | bxorImm3Rd (imm3 : BitVec 3) (rd : R8)
  /-- BXOR #xx:3,@ERd; code 7 C 0erd 0 7 5 0imm3 0; R351. -/
  | bxorImm3AtERd (imm3 : BitVec 3) (erd : ERn)
  /-- BXOR #xx:3,@aa:8; code 7 E abs8 7 5 0imm3 0; R351. -/
  | bxorImm3Abs8 (imm3 : BitVec 3) (abs8 : Byte)
  /-- BIXOR #xx:3,Rd; code 7 5 1imm3 rd; R352. -/
  | bixorImm3Rd (imm3 : BitVec 3) (rd : R8)
  /-- BIXOR #xx:3,@ERd; code 7 C 0erd 0 7 5 1imm3 0; R352. -/
  | bixorImm3AtERd (imm3 : BitVec 3) (erd : ERn)
  /-- BIXOR #xx:3,@aa:8; code 7 E abs8 7 5 1imm3 0; R352. -/
  | bixorImm3Abs8 (imm3 : BitVec 3) (abs8 : Byte)
  /-- BLD #xx:3,Rd; code 7 7 0imm3 rd; R353. -/
  | bldImm3Rd (imm3 : BitVec 3) (rd : R8)
  /-- BLD #xx:3,@ERd; code 7 C 0erd 0 7 7 0imm3 0; R353. -/
  | bldImm3AtERd (imm3 : BitVec 3) (erd : ERn)
  /-- BLD #xx:3,@aa:8; code 7 E abs8 7 7 0imm3 0; R353. -/
  | bldImm3Abs8 (imm3 : BitVec 3) (abs8 : Byte)
  /-- BILD #xx:3,Rd; code 7 7 1imm3 rd; R354. -/
  | bildImm3Rd (imm3 : BitVec 3) (rd : R8)
  /-- BILD #xx:3,@ERd; code 7 C 0erd 0 7 7 1imm3 0; R354. -/
  | bildImm3AtERd (imm3 : BitVec 3) (erd : ERn)
  /-- BILD #xx:3,@aa:8; code 7 E abs8 7 7 1imm3 0; R354. -/
  | bildImm3Abs8 (imm3 : BitVec 3) (abs8 : Byte)
  /-- BST #xx:3,Rd; code 6 7 0imm3 rd; R355. -/
  | bstImm3Rd (imm3 : BitVec 3) (rd : R8)
  /-- BST #xx:3,@ERd; code 7 D 0erd 0 6 7 0imm3 0; R355. -/
  | bstImm3AtERd (imm3 : BitVec 3) (erd : ERn)
  /-- BST #xx:3,@aa:8; code 7 F abs8 6 7 0imm3 0; R355. -/
  | bstImm3Abs8 (imm3 : BitVec 3) (abs8 : Byte)
  /-- BIST #xx:3,Rd; code 6 7 1imm3 rd; R356. -/
  | bistImm3Rd (imm3 : BitVec 3) (rd : R8)
  /-- BIST #xx:3,@ERd; code 7 D 0erd 0 6 7 1imm3 0; R356. -/
  | bistImm3AtERd (imm3 : BitVec 3) (erd : ERn)
  /-- BIST #xx:3,@aa:8; code 7 F abs8 6 7 1imm3 0; R356. -/
  | bistImm3Abs8 (imm3 : BitVec 3) (abs8 : Byte)
  /-- BRA d:8; code 4 0 disp8; R401. -/
  | braD8 (disp8 : Byte)
  /-- BRN d:8; code 4 1 disp8; R401. -/
  | brnD8 (disp8 : Byte)
  /-- BHI d:8; code 4 2 disp8; R401. -/
  | bhiD8 (disp8 : Byte)
  /-- BLS d:8; code 4 3 disp8; R401. -/
  | blsD8 (disp8 : Byte)
  /-- BCC d:8; code 4 4 disp8; R401. -/
  | bccD8 (disp8 : Byte)
  /-- BCS d:8; code 4 5 disp8; R401. -/
  | bcsD8 (disp8 : Byte)
  /-- BNE d:8; code 4 6 disp8; R401. -/
  | bneD8 (disp8 : Byte)
  /-- BEQ d:8; code 4 7 disp8; R401. -/
  | beqD8 (disp8 : Byte)
  /-- BVC d:8; code 4 8 disp8; R401. -/
  | bvcD8 (disp8 : Byte)
  /-- BVS d:8; code 4 9 disp8; R401. -/
  | bvsD8 (disp8 : Byte)
  /-- BPL d:8; code 4 A disp8; R401. -/
  | bplD8 (disp8 : Byte)
  /-- BMI d:8; code 4 B disp8; R401. -/
  | bmiD8 (disp8 : Byte)
  /-- BGE d:8; code 4 C disp8; R401. -/
  | bgeD8 (disp8 : Byte)
  /-- BLT d:8; code 4 D disp8; R401. -/
  | bltD8 (disp8 : Byte)
  /-- BGT d:8; code 4 E disp8; R401. -/
  | bgtD8 (disp8 : Byte)
  /-- BLE d:8; code 4 F disp8; R401. -/
  | bleD8 (disp8 : Byte)
  /-- BRA d:16; code 5 8 0 0 disp16; R402. -/
  | braD16 (disp16 : Word)
  /-- BRN d:16; code 5 8 1 0 disp16; R402. -/
  | brnD16 (disp16 : Word)
  /-- BHI d:16; code 5 8 2 0 disp16; R402. -/
  | bhiD16 (disp16 : Word)
  /-- BLS d:16; code 5 8 3 0 disp16; R402. -/
  | blsD16 (disp16 : Word)
  /-- BCC d:16; code 5 8 4 0 disp16; R402. -/
  | bccD16 (disp16 : Word)
  /-- BCS d:16; code 5 8 5 0 disp16; R402. -/
  | bcsD16 (disp16 : Word)
  /-- BNE d:16; code 5 8 6 0 disp16; R402. -/
  | bneD16 (disp16 : Word)
  /-- BEQ d:16; code 5 8 7 0 disp16; R402. -/
  | beqD16 (disp16 : Word)
  /-- BVC d:16; code 5 8 8 0 disp16; R402. -/
  | bvcD16 (disp16 : Word)
  /-- BVS d:16; code 5 8 9 0 disp16; R402. -/
  | bvsD16 (disp16 : Word)
  /-- BPL d:16; code 5 8 A 0 disp16; R402. -/
  | bplD16 (disp16 : Word)
  /-- BMI d:16; code 5 8 B 0 disp16; R402. -/
  | bmiD16 (disp16 : Word)
  /-- BGE d:16; code 5 8 C 0 disp16; R402. -/
  | bgeD16 (disp16 : Word)
  /-- BLT d:16; code 5 8 D 0 disp16; R402. -/
  | bltD16 (disp16 : Word)
  /-- BGT d:16; code 5 8 E 0 disp16; R402. -/
  | bgtD16 (disp16 : Word)
  /-- BLE d:16; code 5 8 F 0 disp16; R402. -/
  | bleD16 (disp16 : Word)
  /-- JMP @ERn; code 5 9 0ern 0; R404. -/
  | jmpAtERn (ern : ERn)
  /-- JMP @aa:24; code 5 A abs24; R405. -/
  | jmpAbs24 (abs24 : Addr)
  /-- JMP @@aa:8; code 5 B abs8; R406. -/
  | jmpInd8 (abs8 : Byte)
  /-- BSR d:8; code 5 5 disp8; R407. -/
  | bsrD8 (disp8 : Byte)
  /-- BSR d:16; code 5 C 0 0 disp16; R408. -/
  | bsrD16 (disp16 : Word)
  /-- JSR @ERn; code 5 D 0ern 0; R409. -/
  | jsrAtERn (ern : ERn)
  /-- JSR @aa:24; code 5 E abs24; R410. -/
  | jsrAbs24 (abs24 : Addr)
  /-- JSR @@aa:8; code 5 F abs8; R411. -/
  | jsrInd8 (abs8 : Byte)
  /-- RTS; code 5 4 7 0; R412. -/
  | rts
  /-- LDC #xx:8,CCR; code 0 7 imm8; R441. -/
  | ldcImm8Ccr (imm8 : Byte)
  /-- LDC Rs,CCR; code 0 3 0 rs; R442. -/
  | ldcRsCcr (rs : R8)
  /-- LDC @ERs,CCR; code 0 1 4 0 6 9 0ers 0; R443. -/
  | ldcAtERsCcr (ers : ERn)
  /-- LDC @(d:16,ERs),CCR; code 0 1 4 0 6 F 0ers 0 disp16; R444. -/
  | ldcD16ERsCcr (disp16 : Word) (ers : ERn)
  /-- LDC @(d:24,ERs),CCR; code 0 1 4 0 7 8 0ers 0 6 B 2 0 0 0 disp24; R445. -/
  | ldcD24ERsCcr (disp24 : Addr) (ers : ERn)
  /-- LDC @ERs+,CCR; code 0 1 4 0 6 D 0ers 0; R446. -/
  | ldcPostERsCcr (ers : ERn)
  /-- LDC @aa:16,CCR; code 0 1 4 0 6 B 0 0 abs16; R447. -/
  | ldcAbs16Ccr (abs16 : Word)
  /-- LDC @aa:24,CCR; code 0 1 4 0 6 B 2 0 0 0 abs24; R448. -/
  | ldcAbs24Ccr (abs24 : Addr)
  /-- STC CCR,Rd; code 0 2 0 rd; R449. -/
  | stcCcrRd (rd : R8)
  /-- STC CCR,@ERd; code 0 1 4 0 6 9 1erd 0; R450. -/
  | stcCcrAtERd (erd : ERn)
  /-- STC CCR,@(d:16,ERd); code 0 1 4 0 6 F 1erd 0 disp16; R451. -/
  | stcCcrD16ERd (disp16 : Word) (erd : ERn)
  /-- STC CCR,@(d:24,ERd); code 0 1 4 0 7 8 0erd 0 6 B A 0 0 0 disp24; R452. -/
  | stcCcrD24ERd (disp24 : Addr) (erd : ERn)
  /-- STC CCR,@-ERd; code 0 1 4 0 6 D 1erd 0; R453. -/
  | stcCcrPreERd (erd : ERn)
  /-- STC CCR,@aa:16; code 0 1 4 0 6 B 8 0 abs16; R454. -/
  | stcCcrAbs16 (abs16 : Word)
  /-- STC CCR,@aa:24; code 0 1 4 0 6 B A 0 0 0 abs24; R455. -/
  | stcCcrAbs24 (abs24 : Addr)
  /-- ANDC #xx:8,CCR; code 0 6 imm8; R456. -/
  | andcImm8Ccr (imm8 : Byte)
  /-- ORC #xx:8,CCR; code 0 4 imm8; R457. -/
  | orcImm8Ccr (imm8 : Byte)
  /-- XORC #xx:8,CCR; code 0 5 imm8; R458. -/
  | xorcImm8Ccr (imm8 : Byte)
  /-- NOP; code 0 0 0 0; R459. -/
  | nop
  /-- RTE; code 5 6 7 0; R460. -/
  | rte
  /-- TRAPA #x:2; code 5 7 00imm2 0; R462. -/
  | trapaImm2 (imm2 : BitVec 2)
  /-- SLEEP; code 0 1 8 0; R470. -/
  | sleep
  /-- EEPMOV.B; code 7 B 5 C 5 9 8 F; R490. -/
  | eepmovB
  /-- EEPMOV.W; code 7 B D 4 5 9 8 F; R491. -/
  | eepmovW
  deriving DecidableEq, Repr

end Sys2Proof
end

