-- ==== Sys2Proof/WellFormed.lean ====
section
/-! DEFINITION. Which terms of Instr stand for an instruction word of their own. Every operand is in range by its
type; what is left is R128: a MOV through @ER7+ or @-ER7 of word or longword size has the code of POP or PUSH, and
this syntax writes that code as popW, popL, pushW, pushL. -/

namespace Sys2Proof

/-- The instruction is the name this syntax gives its code (30_encoding R128). -/
def Instr.wellFormed : Instr → Bool
  | .movWPostERsRd ers _ => ers != .er7
  | .movLPostERsERd ers _ => ers != .er7
  | .movWRsPreERd _ erd => erd != .er7
  | .movLERsPreERd _ erd => erd != .er7
  | _ => true

end Sys2Proof
end

