-- ==== Sys2Proof/Decode.lean ====
section
/-! DEFINITION. The decoder (30_encoding R125 to R131) and after it the encoder, both over the nibbles in which the
spec prints every code (R103): one instruction word is four nibbles, most significant first. The section is
noncomputable for one reason: compiled Lean has room for 244 constructors with fields, and Instr has more. The kernel
evaluates every definition here. -/

namespace Sys2Proof

noncomputable section

/-- A hexadecimal digit of an instruction code (R10, R103). -/
inductive Nib where
  | n0 | n1 | n2 | n3 | n4 | n5 | n6 | n7 | n8 | n9 | nA | nB | nC | nD | nE | nF
  deriving DecidableEq, Repr

/-- The four bits of a digit. -/
def Nib.bits : Nib → BitVec 4
  | .n0 => 0x0 | .n1 => 0x1 | .n2 => 0x2 | .n3 => 0x3 | .n4 => 0x4 | .n5 => 0x5 | .n6 => 0x6 | .n7 => 0x7
  | .n8 => 0x8 | .n9 => 0x9 | .nA => 0xA | .nB => 0xB | .nC => 0xC | .nD => 0xD | .nE => 0xE | .nF => 0xF

/-- The digit of four bits. -/
def Nib.ofBits (b : BitVec 4) : Nib :=
  match b.toNat with
  | 0 => .n0 | 1 => .n1 | 2 => .n2 | 3 => .n3 | 4 => .n4 | 5 => .n5 | 6 => .n6 | 7 => .n7
  | 8 => .n8 | 9 => .n9 | 10 => .nA | 11 => .nB | 12 => .nC | 13 => .nD | 14 => .nE | _ => .nF

/-- The 3-bit register field of R105. -/
def ERn.bits : ERn → BitVec 3
  | .er0 => 0 | .er1 => 1 | .er2 => 2 | .er3 => 3 | .er4 => 4 | .er5 => 5 | .er6 => 6 | .er7 => 7

/-- The register a 3-bit field names (R104, R105). -/
def ERn.ofBits (b : BitVec 3) : ERn :=
  match b.toNat with
  | 0 => .er0 | 1 => .er1 | 2 => .er2 | 3 => .er3 | 4 => .er4 | 5 => .er5 | 6 => .er6 | _ => .er7

/-- The 8-bit register a 4-bit field names (R104): 0 to 7 are R0H to R7H, 8 to F are R0L to R7L. -/
def R8.ofNib : Nib → R8
  | .n0 => ⟨.er0, .h⟩ | .n1 => ⟨.er1, .h⟩ | .n2 => ⟨.er2, .h⟩ | .n3 => ⟨.er3, .h⟩
  | .n4 => ⟨.er4, .h⟩ | .n5 => ⟨.er5, .h⟩ | .n6 => ⟨.er6, .h⟩ | .n7 => ⟨.er7, .h⟩
  | .n8 => ⟨.er0, .l⟩ | .n9 => ⟨.er1, .l⟩ | .nA => ⟨.er2, .l⟩ | .nB => ⟨.er3, .l⟩
  | .nC => ⟨.er4, .l⟩ | .nD => ⟨.er5, .l⟩ | .nE => ⟨.er6, .l⟩ | .nF => ⟨.er7, .l⟩

/-- The 4-bit field of an 8-bit register (R104). -/
def R8.nib : R8 → Nib
  | ⟨.er0, .h⟩ => .n0 | ⟨.er1, .h⟩ => .n1 | ⟨.er2, .h⟩ => .n2 | ⟨.er3, .h⟩ => .n3
  | ⟨.er4, .h⟩ => .n4 | ⟨.er5, .h⟩ => .n5 | ⟨.er6, .h⟩ => .n6 | ⟨.er7, .h⟩ => .n7
  | ⟨.er0, .l⟩ => .n8 | ⟨.er1, .l⟩ => .n9 | ⟨.er2, .l⟩ => .nA | ⟨.er3, .l⟩ => .nB
  | ⟨.er4, .l⟩ => .nC | ⟨.er5, .l⟩ => .nD | ⟨.er6, .l⟩ => .nE | ⟨.er7, .l⟩ => .nF

/-- The 16-bit register a 4-bit field names (R104): 0 to 7 are R0 to R7, 8 to F are E0 to E7. -/
def R16.ofNib : Nib → R16
  | .n0 => ⟨.er0, .r⟩ | .n1 => ⟨.er1, .r⟩ | .n2 => ⟨.er2, .r⟩ | .n3 => ⟨.er3, .r⟩
  | .n4 => ⟨.er4, .r⟩ | .n5 => ⟨.er5, .r⟩ | .n6 => ⟨.er6, .r⟩ | .n7 => ⟨.er7, .r⟩
  | .n8 => ⟨.er0, .e⟩ | .n9 => ⟨.er1, .e⟩ | .nA => ⟨.er2, .e⟩ | .nB => ⟨.er3, .e⟩
  | .nC => ⟨.er4, .e⟩ | .nD => ⟨.er5, .e⟩ | .nE => ⟨.er6, .e⟩ | .nF => ⟨.er7, .e⟩

/-- The 4-bit field of a 16-bit register (R104). -/
def R16.nib : R16 → Nib
  | ⟨.er0, .r⟩ => .n0 | ⟨.er1, .r⟩ => .n1 | ⟨.er2, .r⟩ => .n2 | ⟨.er3, .r⟩ => .n3
  | ⟨.er4, .r⟩ => .n4 | ⟨.er5, .r⟩ => .n5 | ⟨.er6, .r⟩ => .n6 | ⟨.er7, .r⟩ => .n7
  | ⟨.er0, .e⟩ => .n8 | ⟨.er1, .e⟩ => .n9 | ⟨.er2, .e⟩ => .nA | ⟨.er3, .e⟩ => .nB
  | ⟨.er4, .e⟩ => .nC | ⟨.er5, .e⟩ => .nD | ⟨.er6, .e⟩ => .nE | ⟨.er7, .e⟩ => .nF

/-! Reading fields. Each takes the digit or the digits left and what to do with the field. -/

/-- One digit and the digits after it. -/
def nib {α : Type} (ns : List Nib) (k : Nib → List Nib → Option α) : Option α :=
  match ns with
  | n :: rest => k n rest
  | [] => none

/-- A digit that is part of the operation code (R130). -/
def lit {α : Type} (c : Nib) (ns : List Nib) (k : List Nib → Option α) : Option α :=
  nib ns fun n rest => if n = c then k rest else none

/-- A fixed 0 bit and a 3-bit field. -/
def low3 {α : Type} (n : Nib) (k : BitVec 3 → Option α) : Option α :=
  match n with
  | .n0 => k 0 | .n1 => k 1 | .n2 => k 2 | .n3 => k 3 | .n4 => k 4 | .n5 => k 5 | .n6 => k 6 | .n7 => k 7
  | _ => none

/-- A fixed 1 bit and a 3-bit field. -/
def high3 {α : Type} (n : Nib) (k : BitVec 3 → Option α) : Option α :=
  match n with
  | .n8 => k 0 | .n9 => k 1 | .nA => k 2 | .nB => k 3 | .nC => k 4 | .nD => k 5 | .nE => k 6 | .nF => k 7
  | _ => none

/-- A digit whose top bit is part of the operation code and selects what the 3-bit field below it is for. -/
def split3 {α : Type} (n : Nib) (k0 k1 : BitVec 3 → Option α) : Option α :=
  match n with
  | .n0 => k0 0 | .n1 => k0 1 | .n2 => k0 2 | .n3 => k0 3 | .n4 => k0 4 | .n5 => k0 5 | .n6 => k0 6 | .n7 => k0 7
  | .n8 => k1 0 | .n9 => k1 1 | .nA => k1 2 | .nB => k1 3 | .nC => k1 4 | .nD => k1 5 | .nE => k1 6 | .nF => k1 7

/-- Two fixed 0 bits and a 2-bit field (TRAPA). -/
def low2 {α : Type} (n : Nib) (k : BitVec 2 → Option α) : Option α :=
  match n with
  | .n0 => k 0 | .n1 => k 1 | .n2 => k 2 | .n3 => k 3
  | _ => none

/-- A byte of two digits. -/
def byteOf (a b : Nib) : Byte := a.bits ++ b.bits

/-- A word of four digits. -/
def wordOf (a b c d : Nib) : Word := byteOf a b ++ byteOf c d

/-- An 8-bit extension and the digits after it (R108). -/
def ext8 {α : Type} (ns : List Nib) (k : Byte → List Nib → Option α) : Option α :=
  match ns with
  | a :: b :: rest => k (byteOf a b) rest
  | _ => none

/-- A 16-bit extension, most significant byte first (R61, R108). -/
def ext16 {α : Type} (ns : List Nib) (k : Word → Option α) : Option α :=
  match ns with
  | a :: b :: c :: d :: _ => k (wordOf a b c d)
  | _ => none

/-- A 24-bit extension (R108). -/
def ext24 {α : Type} (ns : List Nib) (k : Addr → Option α) : Option α :=
  match ns with
  | a :: b :: c :: d :: e :: f :: _ => k (byteOf a b ++ wordOf c d e f)
  | _ => none

/-- A 32-bit extension (R108). -/
def ext32 {α : Type} (ns : List Nib) (k : Long → Option α) : Option α :=
  match ns with
  | a :: b :: c :: d :: e :: f :: g :: h :: _ => k (wordOf a b c d ++ wordOf e f g h)
  | _ => none

/-! Writing fields, for the encoder. -/

/-- The digit of a fixed 0 bit and a 3-bit field. -/
def encLow3 (x : BitVec 3) : Nib := Nib.ofBits (0#1 ++ x)

/-- The digit of a fixed 1 bit and a 3-bit field. -/
def encHigh3 (x : BitVec 3) : Nib := Nib.ofBits (1#1 ++ x)

/-- The digit of two fixed 0 bits and a 2-bit field. -/
def encLow2 (x : BitVec 2) : Nib := Nib.ofBits (0#2 ++ x)

/-- The two digits of a byte. -/
def nibs8 (x : Byte) : List Nib := [.ofBits (x.extractLsb' 4 4), .ofBits (x.extractLsb' 0 4)]

/-- The four digits of a word. -/
def nibs16 (x : Word) : List Nib := nibs8 (x.extractLsb' 8 8) ++ nibs8 (x.extractLsb' 0 8)

/-- The six digits of a 24-bit value. -/
def nibs24 (x : Addr) : List Nib := nibs8 (x.extractLsb' 16 8) ++ nibs16 (x.extractLsb' 0 16)

/-- The eight digits of a longword. -/
def nibs32 (x : Long) : List Nib := nibs16 (x.extractLsb' 16 16) ++ nibs16 (x.extractLsb' 0 16)

/-! The decoder, a tree over the digits of R127. -/

/-- The codes that begin 0 1 0 0 6 (R127). -/
def decode01006 (ns : List Nib) : Option Instr :=
  nib ns fun a ns =>
  match a with
  | .n9 =>
      nib ns fun a ns =>
      split3 a
        (fun x => let ers := ERn.ofBits x
          nib ns fun a _ =>
          low3 a fun x => let erd := ERn.ofBits x
          some (.movLAtERsERd ers erd))
        (fun x => let erd := ERn.ofBits x
          nib ns fun a _ =>
          low3 a fun x => let ers := ERn.ofBits x
          some (.movLERsAtERd ers erd))
  | .nB =>
      nib ns fun a ns =>
      match a with
      | .n0 =>
          nib ns fun a ns =>
          low3 a fun x => let erd := ERn.ofBits x
          ext16 ns fun abs16 => some (.movLAbs16ERd abs16 erd)
      | .n2 =>
          nib ns fun a ns =>
          low3 a fun x => let erd := ERn.ofBits x
          lit .n0 ns fun ns =>
          lit .n0 ns fun ns =>
          ext24 ns fun abs24 => some (.movLAbs24ERd abs24 erd)
      | .n8 =>
          nib ns fun a ns =>
          low3 a fun x => let ers := ERn.ofBits x
          ext16 ns fun abs16 => some (.movLERsAbs16 ers abs16)
      | .nA =>
          nib ns fun a ns =>
          low3 a fun x => let ers := ERn.ofBits x
          lit .n0 ns fun ns =>
          lit .n0 ns fun ns =>
          ext24 ns fun abs24 => some (.movLERsAbs24 ers abs24)
      | _ => none
  | .nD =>
      nib ns fun a ns =>
      match a with
      | .n7 =>
          nib ns fun a _ =>
          low3 a fun x => let ern := ERn.ofBits x
          some (.popLERn ern)
      | .nF =>
          nib ns fun a _ =>
          low3 a fun x => let ern := ERn.ofBits x
          some (.pushLERn ern)
      | _ =>
          split3 a
            (fun x => let ers := ERn.ofBits x
              nib ns fun a _ =>
              low3 a fun x => let erd := ERn.ofBits x
              some (.movLPostERsERd ers erd))
            (fun x => let erd := ERn.ofBits x
              nib ns fun a _ =>
              low3 a fun x => let ers := ERn.ofBits x
              some (.movLERsPreERd ers erd))
  | .nF =>
      nib ns fun a ns =>
      split3 a
        (fun x => let ers := ERn.ofBits x
          nib ns fun a ns =>
          low3 a fun x => let erd := ERn.ofBits x
          ext16 ns fun disp16 => some (.movLD16ERsERd disp16 ers erd))
        (fun x => let erd := ERn.ofBits x
          nib ns fun a ns =>
          low3 a fun x => let ers := ERn.ofBits x
          ext16 ns fun disp16 => some (.movLERsD16ERd ers disp16 erd))
  | _ => none

/-- The codes that begin 0 1 0 (R127). -/
def decode010 (ns : List Nib) : Option Instr :=
  lit .n0 ns fun ns =>
  nib ns fun a ns =>
  match a with
  | .n6 => decode01006 ns
  | .n7 =>
      lit .n8 ns fun ns =>
      nib ns fun a ns =>
      split3 a
        (fun x => let ers := ERn.ofBits x
          lit .n0 ns fun ns =>
          lit .n6 ns fun ns =>
          lit .nB ns fun ns =>
          lit .n2 ns fun ns =>
          nib ns fun a ns =>
          low3 a fun x => let erd := ERn.ofBits x
          lit .n0 ns fun ns =>
          lit .n0 ns fun ns =>
          ext24 ns fun disp24 => some (.movLD24ERsERd disp24 ers erd))
        (fun x => let erd := ERn.ofBits x
          lit .n0 ns fun ns =>
          lit .n6 ns fun ns =>
          lit .nB ns fun ns =>
          lit .nA ns fun ns =>
          nib ns fun a ns =>
          low3 a fun x => let ers := ERn.ofBits x
          lit .n0 ns fun ns =>
          lit .n0 ns fun ns =>
          ext24 ns fun disp24 => some (.movLERsD24ERd ers disp24 erd))
  | _ => none

/-- The codes that begin 0 1 4 0 6 (R127). -/
def decode01406 (ns : List Nib) : Option Instr :=
  nib ns fun a ns =>
  match a with
  | .n9 =>
      nib ns fun a ns =>
      split3 a
        (fun x => let ers := ERn.ofBits x
          lit .n0 ns fun _ =>
          some (.ldcAtERsCcr ers))
        (fun x => let erd := ERn.ofBits x
          lit .n0 ns fun _ =>
          some (.stcCcrAtERd erd))
  | .nB =>
      nib ns fun a ns =>
      match a with
      | .n0 =>
          lit .n0 ns fun ns =>
          ext16 ns fun abs16 => some (.ldcAbs16Ccr abs16)
      | .n2 =>
          lit .n0 ns fun ns =>
          lit .n0 ns fun ns =>
          lit .n0 ns fun ns =>
          ext24 ns fun abs24 => some (.ldcAbs24Ccr abs24)
      | .n8 =>
          lit .n0 ns fun ns =>
          ext16 ns fun abs16 => some (.stcCcrAbs16 abs16)
      | .nA =>
          lit .n0 ns fun ns =>
          lit .n0 ns fun ns =>
          lit .n0 ns fun ns =>
          ext24 ns fun abs24 => some (.stcCcrAbs24 abs24)
      | _ => none
  | .nD =>
      nib ns fun a ns =>
      split3 a
        (fun x => let ers := ERn.ofBits x
          lit .n0 ns fun _ =>
          some (.ldcPostERsCcr ers))
        (fun x => let erd := ERn.ofBits x
          lit .n0 ns fun _ =>
          some (.stcCcrPreERd erd))
  | .nF =>
      nib ns fun a ns =>
      split3 a
        (fun x => let ers := ERn.ofBits x
          lit .n0 ns fun ns =>
          ext16 ns fun disp16 => some (.ldcD16ERsCcr disp16 ers))
        (fun x => let erd := ERn.ofBits x
          lit .n0 ns fun ns =>
          ext16 ns fun disp16 => some (.stcCcrD16ERd disp16 erd))
  | _ => none

/-- The codes that begin 0 1 4 (R127). -/
def decode014 (ns : List Nib) : Option Instr :=
  lit .n0 ns fun ns =>
  nib ns fun a ns =>
  match a with
  | .n6 => decode01406 ns
  | .n7 =>
      lit .n8 ns fun ns =>
      nib ns fun a ns =>
      low3 a fun x => let erd := ERn.ofBits x
      lit .n0 ns fun ns =>
      lit .n6 ns fun ns =>
      lit .nB ns fun ns =>
      nib ns fun a ns =>
      match a with
      | .n2 =>
          lit .n0 ns fun ns =>
          lit .n0 ns fun ns =>
          lit .n0 ns fun ns =>
          ext24 ns fun disp24 => some (.ldcD24ERsCcr disp24 erd)
      | .nA =>
          lit .n0 ns fun ns =>
          lit .n0 ns fun ns =>
          lit .n0 ns fun ns =>
          ext24 ns fun disp24 => some (.stcCcrD24ERd disp24 erd)
      | _ => none
  | _ => none

/-- The codes that begin 0 1 (R127). -/
def decode01 (ns : List Nib) : Option Instr :=
  nib ns fun a ns =>
  match a with
  | .n0 => decode010 ns
  | .n4 => decode014 ns
  | .n8 =>
      lit .n0 ns fun _ =>
      some (.sleep)
  | .nC =>
      lit .n0 ns fun ns =>
      lit .n5 ns fun ns =>
      nib ns fun a ns =>
      match a with
      | .n0 =>
          nib ns fun a ns => let rs := R8.ofNib a
          nib ns fun a _ => let rd := R16.ofNib a
          some (.mulxsBRsRd rs rd)
      | .n2 =>
          nib ns fun a ns => let rs := R16.ofNib a
          nib ns fun a _ =>
          low3 a fun x => let erd := ERn.ofBits x
          some (.mulxsWRsERd rs erd)
      | _ => none
  | .nD =>
      lit .n0 ns fun ns =>
      lit .n5 ns fun ns =>
      nib ns fun a ns =>
      match a with
      | .n1 =>
          nib ns fun a ns => let rs := R8.ofNib a
          nib ns fun a _ => let rd := R16.ofNib a
          some (.divxsBRsRd rs rd)
      | .n3 =>
          nib ns fun a ns => let rs := R16.ofNib a
          nib ns fun a _ =>
          low3 a fun x => let erd := ERn.ofBits x
          some (.divxsWRsERd rs erd)
      | _ => none
  | .nF =>
      lit .n0 ns fun ns =>
      lit .n6 ns fun ns =>
      nib ns fun a ns =>
      match a with
      | .n4 =>
          nib ns fun a ns =>
          low3 a fun x => let ers := ERn.ofBits x
          nib ns fun a _ =>
          low3 a fun x => let erd := ERn.ofBits x
          some (.orLERsERd ers erd)
      | .n5 =>
          nib ns fun a ns =>
          low3 a fun x => let ers := ERn.ofBits x
          nib ns fun a _ =>
          low3 a fun x => let erd := ERn.ofBits x
          some (.xorLERsERd ers erd)
      | .n6 =>
          nib ns fun a ns =>
          low3 a fun x => let ers := ERn.ofBits x
          nib ns fun a _ =>
          low3 a fun x => let erd := ERn.ofBits x
          some (.andLERsERd ers erd)
      | _ => none
  | _ => none

/-- The codes that begin 0 B (R127). -/
def decode0B (ns : List Nib) : Option Instr :=
  nib ns fun a ns =>
  match a with
  | .n0 =>
      nib ns fun a _ =>
      low3 a fun x => let erd := ERn.ofBits x
      some (.addsOneERd erd)
  | .n5 =>
      nib ns fun a _ => let rd := R16.ofNib a
      some (.incWOneRd rd)
  | .n7 =>
      nib ns fun a _ =>
      low3 a fun x => let erd := ERn.ofBits x
      some (.incLOneERd erd)
  | .n8 =>
      nib ns fun a _ =>
      low3 a fun x => let erd := ERn.ofBits x
      some (.addsTwoERd erd)
  | .n9 =>
      nib ns fun a _ =>
      low3 a fun x => let erd := ERn.ofBits x
      some (.addsFourERd erd)
  | .nD =>
      nib ns fun a _ => let rd := R16.ofNib a
      some (.incWTwoRd rd)
  | .nF =>
      nib ns fun a _ =>
      low3 a fun x => let erd := ERn.ofBits x
      some (.incLTwoERd erd)
  | _ => none

/-- The codes that begin 0 (R127). -/
def decode0 (ns : List Nib) : Option Instr :=
  nib ns fun a ns =>
  match a with
  | .n0 =>
      lit .n0 ns fun ns =>
      lit .n0 ns fun _ =>
      some (.nop)
  | .n1 => decode01 ns
  | .n2 =>
      lit .n0 ns fun ns =>
      nib ns fun a _ => let rd := R8.ofNib a
      some (.stcCcrRd rd)
  | .n3 =>
      lit .n0 ns fun ns =>
      nib ns fun a _ => let rs := R8.ofNib a
      some (.ldcRsCcr rs)
  | .n4 =>
      ext8 ns fun imm8 _ => some (.orcImm8Ccr imm8)
  | .n5 =>
      ext8 ns fun imm8 _ => some (.xorcImm8Ccr imm8)
  | .n6 =>
      ext8 ns fun imm8 _ => some (.andcImm8Ccr imm8)
  | .n7 =>
      ext8 ns fun imm8 _ => some (.ldcImm8Ccr imm8)
  | .n8 =>
      nib ns fun a ns => let rs := R8.ofNib a
      nib ns fun a _ => let rd := R8.ofNib a
      some (.addBRsRd rs rd)
  | .n9 =>
      nib ns fun a ns => let rs := R16.ofNib a
      nib ns fun a _ => let rd := R16.ofNib a
      some (.addWRsRd rs rd)
  | .nA =>
      nib ns fun a ns =>
      match a with
      | .n0 =>
          nib ns fun a _ => let rd := R8.ofNib a
          some (.incBRd rd)
      | _ =>
          high3 a fun x => let ers := ERn.ofBits x
          nib ns fun a _ =>
          low3 a fun x => let erd := ERn.ofBits x
          some (.addLERsERd ers erd)
  | .nB => decode0B ns
  | .nC =>
      nib ns fun a ns => let rs := R8.ofNib a
      nib ns fun a _ => let rd := R8.ofNib a
      some (.movBRsRd rs rd)
  | .nD =>
      nib ns fun a ns => let rs := R16.ofNib a
      nib ns fun a _ => let rd := R16.ofNib a
      some (.movWRsRd rs rd)
  | .nE =>
      nib ns fun a ns => let rs := R8.ofNib a
      nib ns fun a _ => let rd := R8.ofNib a
      some (.addxRsRd rs rd)
  | .nF =>
      nib ns fun a ns =>
      match a with
      | .n0 =>
          nib ns fun a _ => let rd := R8.ofNib a
          some (.daaRd rd)
      | _ =>
          high3 a fun x => let ers := ERn.ofBits x
          nib ns fun a _ =>
          low3 a fun x => let erd := ERn.ofBits x
          some (.movLERsERd ers erd)

/-- The codes that begin 1 7 (R127). -/
def decode17 (ns : List Nib) : Option Instr :=
  nib ns fun a ns =>
  match a with
  | .n0 =>
      nib ns fun a _ => let rd := R8.ofNib a
      some (.notBRd rd)
  | .n1 =>
      nib ns fun a _ => let rd := R16.ofNib a
      some (.notWRd rd)
  | .n3 =>
      nib ns fun a _ =>
      low3 a fun x => let erd := ERn.ofBits x
      some (.notLERd erd)
  | .n5 =>
      nib ns fun a _ => let rd := R16.ofNib a
      some (.extuWRd rd)
  | .n7 =>
      nib ns fun a _ =>
      low3 a fun x => let erd := ERn.ofBits x
      some (.extuLERd erd)
  | .n8 =>
      nib ns fun a _ => let rd := R8.ofNib a
      some (.negBRd rd)
  | .n9 =>
      nib ns fun a _ => let rd := R16.ofNib a
      some (.negWRd rd)
  | .nB =>
      nib ns fun a _ =>
      low3 a fun x => let erd := ERn.ofBits x
      some (.negLERd erd)
  | .nD =>
      nib ns fun a _ => let rd := R16.ofNib a
      some (.extsWRd rd)
  | .nF =>
      nib ns fun a _ =>
      low3 a fun x => let erd := ERn.ofBits x
      some (.extsLERd erd)
  | _ => none

/-- The codes that begin 1 B (R127). -/
def decode1B (ns : List Nib) : Option Instr :=
  nib ns fun a ns =>
  match a with
  | .n0 =>
      nib ns fun a _ =>
      low3 a fun x => let erd := ERn.ofBits x
      some (.subsOneERd erd)
  | .n5 =>
      nib ns fun a _ => let rd := R16.ofNib a
      some (.decWOneRd rd)
  | .n7 =>
      nib ns fun a _ =>
      low3 a fun x => let erd := ERn.ofBits x
      some (.decLOneERd erd)
  | .n8 =>
      nib ns fun a _ =>
      low3 a fun x => let erd := ERn.ofBits x
      some (.subsTwoERd erd)
  | .n9 =>
      nib ns fun a _ =>
      low3 a fun x => let erd := ERn.ofBits x
      some (.subsFourERd erd)
  | .nD =>
      nib ns fun a _ => let rd := R16.ofNib a
      some (.decWTwoRd rd)
  | .nF =>
      nib ns fun a _ =>
      low3 a fun x => let erd := ERn.ofBits x
      some (.decLTwoERd erd)
  | _ => none

/-- The codes that begin 1 (R127). -/
def decode1 (ns : List Nib) : Option Instr :=
  nib ns fun a ns =>
  match a with
  | .n0 =>
      nib ns fun a ns =>
      match a with
      | .n0 =>
          nib ns fun a _ => let rd := R8.ofNib a
          some (.shllBRd rd)
      | .n1 =>
          nib ns fun a _ => let rd := R16.ofNib a
          some (.shllWRd rd)
      | .n3 =>
          nib ns fun a _ =>
          low3 a fun x => let erd := ERn.ofBits x
          some (.shllLERd erd)
      | .n8 =>
          nib ns fun a _ => let rd := R8.ofNib a
          some (.shalBRd rd)
      | .n9 =>
          nib ns fun a _ => let rd := R16.ofNib a
          some (.shalWRd rd)
      | .nB =>
          nib ns fun a _ =>
          low3 a fun x => let erd := ERn.ofBits x
          some (.shalLERd erd)
      | _ => none
  | .n1 =>
      nib ns fun a ns =>
      match a with
      | .n0 =>
          nib ns fun a _ => let rd := R8.ofNib a
          some (.shlrBRd rd)
      | .n1 =>
          nib ns fun a _ => let rd := R16.ofNib a
          some (.shlrWRd rd)
      | .n3 =>
          nib ns fun a _ =>
          low3 a fun x => let erd := ERn.ofBits x
          some (.shlrLERd erd)
      | .n8 =>
          nib ns fun a _ => let rd := R8.ofNib a
          some (.sharBRd rd)
      | .n9 =>
          nib ns fun a _ => let rd := R16.ofNib a
          some (.sharWRd rd)
      | .nB =>
          nib ns fun a _ =>
          low3 a fun x => let erd := ERn.ofBits x
          some (.sharLERd erd)
      | _ => none
  | .n2 =>
      nib ns fun a ns =>
      match a with
      | .n0 =>
          nib ns fun a _ => let rd := R8.ofNib a
          some (.rotxlBRd rd)
      | .n1 =>
          nib ns fun a _ => let rd := R16.ofNib a
          some (.rotxlWRd rd)
      | .n3 =>
          nib ns fun a _ =>
          low3 a fun x => let erd := ERn.ofBits x
          some (.rotxlLERd erd)
      | .n8 =>
          nib ns fun a _ => let rd := R8.ofNib a
          some (.rotlBRd rd)
      | .n9 =>
          nib ns fun a _ => let rd := R16.ofNib a
          some (.rotlWRd rd)
      | .nB =>
          nib ns fun a _ =>
          low3 a fun x => let erd := ERn.ofBits x
          some (.rotlLERd erd)
      | _ => none
  | .n3 =>
      nib ns fun a ns =>
      match a with
      | .n0 =>
          nib ns fun a _ => let rd := R8.ofNib a
          some (.rotxrBRd rd)
      | .n1 =>
          nib ns fun a _ => let rd := R16.ofNib a
          some (.rotxrWRd rd)
      | .n3 =>
          nib ns fun a _ =>
          low3 a fun x => let erd := ERn.ofBits x
          some (.rotxrLERd erd)
      | .n8 =>
          nib ns fun a _ => let rd := R8.ofNib a
          some (.rotrBRd rd)
      | .n9 =>
          nib ns fun a _ => let rd := R16.ofNib a
          some (.rotrWRd rd)
      | .nB =>
          nib ns fun a _ =>
          low3 a fun x => let erd := ERn.ofBits x
          some (.rotrLERd erd)
      | _ => none
  | .n4 =>
      nib ns fun a ns => let rs := R8.ofNib a
      nib ns fun a _ => let rd := R8.ofNib a
      some (.orBRsRd rs rd)
  | .n5 =>
      nib ns fun a ns => let rs := R8.ofNib a
      nib ns fun a _ => let rd := R8.ofNib a
      some (.xorBRsRd rs rd)
  | .n6 =>
      nib ns fun a ns => let rs := R8.ofNib a
      nib ns fun a _ => let rd := R8.ofNib a
      some (.andBRsRd rs rd)
  | .n7 => decode17 ns
  | .n8 =>
      nib ns fun a ns => let rs := R8.ofNib a
      nib ns fun a _ => let rd := R8.ofNib a
      some (.subBRsRd rs rd)
  | .n9 =>
      nib ns fun a ns => let rs := R16.ofNib a
      nib ns fun a _ => let rd := R16.ofNib a
      some (.subWRsRd rs rd)
  | .nA =>
      nib ns fun a ns =>
      match a with
      | .n0 =>
          nib ns fun a _ => let rd := R8.ofNib a
          some (.decBRd rd)
      | _ =>
          high3 a fun x => let ers := ERn.ofBits x
          nib ns fun a _ =>
          low3 a fun x => let erd := ERn.ofBits x
          some (.subLERsERd ers erd)
  | .nB => decode1B ns
  | .nC =>
      nib ns fun a ns => let rs := R8.ofNib a
      nib ns fun a _ => let rd := R8.ofNib a
      some (.cmpBRsRd rs rd)
  | .nD =>
      nib ns fun a ns => let rs := R16.ofNib a
      nib ns fun a _ => let rd := R16.ofNib a
      some (.cmpWRsRd rs rd)
  | .nE =>
      nib ns fun a ns => let rs := R8.ofNib a
      nib ns fun a _ => let rd := R8.ofNib a
      some (.subxRsRd rs rd)
  | .nF =>
      nib ns fun a ns =>
      match a with
      | .n0 =>
          nib ns fun a _ => let rd := R8.ofNib a
          some (.dasRd rd)
      | _ =>
          high3 a fun x => let ers := ERn.ofBits x
          nib ns fun a _ =>
          low3 a fun x => let erd := ERn.ofBits x
          some (.cmpLERsERd ers erd)

/-- The codes that begin 4 (R127). -/
def decode4 (ns : List Nib) : Option Instr :=
  nib ns fun a ns =>
  match a with
  | .n0 =>
      ext8 ns fun disp8 _ => some (.braD8 disp8)
  | .n1 =>
      ext8 ns fun disp8 _ => some (.brnD8 disp8)
  | .n2 =>
      ext8 ns fun disp8 _ => some (.bhiD8 disp8)
  | .n3 =>
      ext8 ns fun disp8 _ => some (.blsD8 disp8)
  | .n4 =>
      ext8 ns fun disp8 _ => some (.bccD8 disp8)
  | .n5 =>
      ext8 ns fun disp8 _ => some (.bcsD8 disp8)
  | .n6 =>
      ext8 ns fun disp8 _ => some (.bneD8 disp8)
  | .n7 =>
      ext8 ns fun disp8 _ => some (.beqD8 disp8)
  | .n8 =>
      ext8 ns fun disp8 _ => some (.bvcD8 disp8)
  | .n9 =>
      ext8 ns fun disp8 _ => some (.bvsD8 disp8)
  | .nA =>
      ext8 ns fun disp8 _ => some (.bplD8 disp8)
  | .nB =>
      ext8 ns fun disp8 _ => some (.bmiD8 disp8)
  | .nC =>
      ext8 ns fun disp8 _ => some (.bgeD8 disp8)
  | .nD =>
      ext8 ns fun disp8 _ => some (.bltD8 disp8)
  | .nE =>
      ext8 ns fun disp8 _ => some (.bgtD8 disp8)
  | .nF =>
      ext8 ns fun disp8 _ => some (.bleD8 disp8)

/-- The codes that begin 5 8 (R127). -/
def decode58 (ns : List Nib) : Option Instr :=
  nib ns fun a ns =>
  match a with
  | .n0 =>
      lit .n0 ns fun ns =>
      ext16 ns fun disp16 => some (.braD16 disp16)
  | .n1 =>
      lit .n0 ns fun ns =>
      ext16 ns fun disp16 => some (.brnD16 disp16)
  | .n2 =>
      lit .n0 ns fun ns =>
      ext16 ns fun disp16 => some (.bhiD16 disp16)
  | .n3 =>
      lit .n0 ns fun ns =>
      ext16 ns fun disp16 => some (.blsD16 disp16)
  | .n4 =>
      lit .n0 ns fun ns =>
      ext16 ns fun disp16 => some (.bccD16 disp16)
  | .n5 =>
      lit .n0 ns fun ns =>
      ext16 ns fun disp16 => some (.bcsD16 disp16)
  | .n6 =>
      lit .n0 ns fun ns =>
      ext16 ns fun disp16 => some (.bneD16 disp16)
  | .n7 =>
      lit .n0 ns fun ns =>
      ext16 ns fun disp16 => some (.beqD16 disp16)
  | .n8 =>
      lit .n0 ns fun ns =>
      ext16 ns fun disp16 => some (.bvcD16 disp16)
  | .n9 =>
      lit .n0 ns fun ns =>
      ext16 ns fun disp16 => some (.bvsD16 disp16)
  | .nA =>
      lit .n0 ns fun ns =>
      ext16 ns fun disp16 => some (.bplD16 disp16)
  | .nB =>
      lit .n0 ns fun ns =>
      ext16 ns fun disp16 => some (.bmiD16 disp16)
  | .nC =>
      lit .n0 ns fun ns =>
      ext16 ns fun disp16 => some (.bgeD16 disp16)
  | .nD =>
      lit .n0 ns fun ns =>
      ext16 ns fun disp16 => some (.bltD16 disp16)
  | .nE =>
      lit .n0 ns fun ns =>
      ext16 ns fun disp16 => some (.bgtD16 disp16)
  | .nF =>
      lit .n0 ns fun ns =>
      ext16 ns fun disp16 => some (.bleD16 disp16)

/-- The codes that begin 5 (R127). -/
def decode5 (ns : List Nib) : Option Instr :=
  nib ns fun a ns =>
  match a with
  | .n0 =>
      nib ns fun a ns => let rs := R8.ofNib a
      nib ns fun a _ => let rd := R16.ofNib a
      some (.mulxuBRsRd rs rd)
  | .n1 =>
      nib ns fun a ns => let rs := R8.ofNib a
      nib ns fun a _ => let rd := R16.ofNib a
      some (.divxuBRsRd rs rd)
  | .n2 =>
      nib ns fun a ns => let rs := R16.ofNib a
      nib ns fun a _ =>
      low3 a fun x => let erd := ERn.ofBits x
      some (.mulxuWRsERd rs erd)
  | .n3 =>
      nib ns fun a ns => let rs := R16.ofNib a
      nib ns fun a _ =>
      low3 a fun x => let erd := ERn.ofBits x
      some (.divxuWRsERd rs erd)
  | .n4 =>
      lit .n7 ns fun ns =>
      lit .n0 ns fun _ =>
      some (.rts)
  | .n5 =>
      ext8 ns fun disp8 _ => some (.bsrD8 disp8)
  | .n6 =>
      lit .n7 ns fun ns =>
      lit .n0 ns fun _ =>
      some (.rte)
  | .n7 =>
      nib ns fun a ns => low2 a fun imm2 =>
      lit .n0 ns fun _ =>
      some (.trapaImm2 imm2)
  | .n8 => decode58 ns
  | .n9 =>
      nib ns fun a ns =>
      low3 a fun x => let ern := ERn.ofBits x
      lit .n0 ns fun _ =>
      some (.jmpAtERn ern)
  | .nA =>
      ext24 ns fun abs24 => some (.jmpAbs24 abs24)
  | .nB =>
      ext8 ns fun abs8 _ => some (.jmpInd8 abs8)
  | .nC =>
      lit .n0 ns fun ns =>
      lit .n0 ns fun ns =>
      ext16 ns fun disp16 => some (.bsrD16 disp16)
  | .nD =>
      nib ns fun a ns =>
      low3 a fun x => let ern := ERn.ofBits x
      lit .n0 ns fun _ =>
      some (.jsrAtERn ern)
  | .nE =>
      ext24 ns fun abs24 => some (.jsrAbs24 abs24)
  | .nF =>
      ext8 ns fun abs8 _ => some (.jsrInd8 abs8)

/-- The codes that begin 6 (R127). -/
def decode6 (ns : List Nib) : Option Instr :=
  nib ns fun a ns =>
  match a with
  | .n0 =>
      nib ns fun a ns => let rn := R8.ofNib a
      nib ns fun a _ => let rd := R8.ofNib a
      some (.bsetRnRd rn rd)
  | .n1 =>
      nib ns fun a ns => let rn := R8.ofNib a
      nib ns fun a _ => let rd := R8.ofNib a
      some (.bnotRnRd rn rd)
  | .n2 =>
      nib ns fun a ns => let rn := R8.ofNib a
      nib ns fun a _ => let rd := R8.ofNib a
      some (.bclrRnRd rn rd)
  | .n3 =>
      nib ns fun a ns => let rn := R8.ofNib a
      nib ns fun a _ => let rd := R8.ofNib a
      some (.btstRnRd rn rd)
  | .n4 =>
      nib ns fun a ns => let rs := R16.ofNib a
      nib ns fun a _ => let rd := R16.ofNib a
      some (.orWRsRd rs rd)
  | .n5 =>
      nib ns fun a ns => let rs := R16.ofNib a
      nib ns fun a _ => let rd := R16.ofNib a
      some (.xorWRsRd rs rd)
  | .n6 =>
      nib ns fun a ns => let rs := R16.ofNib a
      nib ns fun a _ => let rd := R16.ofNib a
      some (.andWRsRd rs rd)
  | .n7 =>
      nib ns fun a ns =>
      split3 a
        (fun imm3 =>
          nib ns fun a _ => let rd := R8.ofNib a
          some (.bstImm3Rd imm3 rd))
        (fun imm3 =>
          nib ns fun a _ => let rd := R8.ofNib a
          some (.bistImm3Rd imm3 rd))
  | .n8 =>
      nib ns fun a ns =>
      split3 a
        (fun x => let ers := ERn.ofBits x
          nib ns fun a _ => let rd := R8.ofNib a
          some (.movBAtERsRd ers rd))
        (fun x => let erd := ERn.ofBits x
          nib ns fun a _ => let rs := R8.ofNib a
          some (.movBRsAtERd rs erd))
  | .n9 =>
      nib ns fun a ns =>
      split3 a
        (fun x => let ers := ERn.ofBits x
          nib ns fun a _ => let rd := R16.ofNib a
          some (.movWAtERsRd ers rd))
        (fun x => let erd := ERn.ofBits x
          nib ns fun a _ => let rs := R16.ofNib a
          some (.movWRsAtERd rs erd))
  | .nA =>
      nib ns fun a ns =>
      match a with
      | .n0 =>
          nib ns fun a ns => let rd := R8.ofNib a
          ext16 ns fun abs16 => some (.movBAbs16Rd abs16 rd)
      | .n2 =>
          nib ns fun a ns => let rd := R8.ofNib a
          lit .n0 ns fun ns =>
          lit .n0 ns fun ns =>
          ext24 ns fun abs24 => some (.movBAbs24Rd abs24 rd)
      | .n4 =>
          nib ns fun a ns => let rd := R8.ofNib a
          ext16 ns fun abs16 => some (.movfpeAbs16Rd abs16 rd)
      | .n8 =>
          nib ns fun a ns => let rs := R8.ofNib a
          ext16 ns fun abs16 => some (.movBRsAbs16 rs abs16)
      | .nA =>
          nib ns fun a ns => let rs := R8.ofNib a
          lit .n0 ns fun ns =>
          lit .n0 ns fun ns =>
          ext24 ns fun abs24 => some (.movBRsAbs24 rs abs24)
      | .nC =>
          nib ns fun a ns => let rs := R8.ofNib a
          ext16 ns fun abs16 => some (.movtpeRsAbs16 rs abs16)
      | _ => none
  | .nB =>
      nib ns fun a ns =>
      match a with
      | .n0 =>
          nib ns fun a ns => let rd := R16.ofNib a
          ext16 ns fun abs16 => some (.movWAbs16Rd abs16 rd)
      | .n2 =>
          nib ns fun a ns => let rd := R16.ofNib a
          lit .n0 ns fun ns =>
          lit .n0 ns fun ns =>
          ext24 ns fun abs24 => some (.movWAbs24Rd abs24 rd)
      | .n8 =>
          nib ns fun a ns => let rs := R16.ofNib a
          ext16 ns fun abs16 => some (.movWRsAbs16 rs abs16)
      | .nA =>
          nib ns fun a ns => let rs := R16.ofNib a
          lit .n0 ns fun ns =>
          lit .n0 ns fun ns =>
          ext24 ns fun abs24 => some (.movWRsAbs24 rs abs24)
      | _ => none
  | .nC =>
      nib ns fun a ns =>
      split3 a
        (fun x => let ers := ERn.ofBits x
          nib ns fun a _ => let rd := R8.ofNib a
          some (.movBPostERsRd ers rd))
        (fun x => let erd := ERn.ofBits x
          nib ns fun a _ => let rs := R8.ofNib a
          some (.movBRsPreERd rs erd))
  | .nD =>
      nib ns fun a ns =>
      match a with
      | .n7 =>
          nib ns fun a _ => let rn := R16.ofNib a
          some (.popWRn rn)
      | .nF =>
          nib ns fun a _ => let rn := R16.ofNib a
          some (.pushWRn rn)
      | _ =>
          split3 a
            (fun x => let ers := ERn.ofBits x
              nib ns fun a _ => let rd := R16.ofNib a
              some (.movWPostERsRd ers rd))
            (fun x => let erd := ERn.ofBits x
              nib ns fun a _ => let rs := R16.ofNib a
              some (.movWRsPreERd rs erd))
  | .nE =>
      nib ns fun a ns =>
      split3 a
        (fun x => let ers := ERn.ofBits x
          nib ns fun a ns => let rd := R8.ofNib a
          ext16 ns fun disp16 => some (.movBD16ERsRd disp16 ers rd))
        (fun x => let erd := ERn.ofBits x
          nib ns fun a ns => let rs := R8.ofNib a
          ext16 ns fun disp16 => some (.movBRsD16ERd rs disp16 erd))
  | .nF =>
      nib ns fun a ns =>
      split3 a
        (fun x => let ers := ERn.ofBits x
          nib ns fun a ns => let rd := R16.ofNib a
          ext16 ns fun disp16 => some (.movWD16ERsRd disp16 ers rd))
        (fun x => let erd := ERn.ofBits x
          nib ns fun a ns => let rs := R16.ofNib a
          ext16 ns fun disp16 => some (.movWRsD16ERd rs disp16 erd))

/-- The codes that begin 7 9 (R127). -/
def decode79 (ns : List Nib) : Option Instr :=
  nib ns fun a ns =>
  match a with
  | .n0 =>
      nib ns fun a ns => let rd := R16.ofNib a
      ext16 ns fun imm16 => some (.movWImm16Rd imm16 rd)
  | .n1 =>
      nib ns fun a ns => let rd := R16.ofNib a
      ext16 ns fun imm16 => some (.addWImm16Rd imm16 rd)
  | .n2 =>
      nib ns fun a ns => let rd := R16.ofNib a
      ext16 ns fun imm16 => some (.cmpWImm16Rd imm16 rd)
  | .n3 =>
      nib ns fun a ns => let rd := R16.ofNib a
      ext16 ns fun imm16 => some (.subWImm16Rd imm16 rd)
  | .n4 =>
      nib ns fun a ns => let rd := R16.ofNib a
      ext16 ns fun imm16 => some (.orWImm16Rd imm16 rd)
  | .n5 =>
      nib ns fun a ns => let rd := R16.ofNib a
      ext16 ns fun imm16 => some (.xorWImm16Rd imm16 rd)
  | .n6 =>
      nib ns fun a ns => let rd := R16.ofNib a
      ext16 ns fun imm16 => some (.andWImm16Rd imm16 rd)
  | _ => none

/-- The codes that begin 7 A (R127). -/
def decode7A (ns : List Nib) : Option Instr :=
  nib ns fun a ns =>
  match a with
  | .n0 =>
      nib ns fun a ns =>
      low3 a fun x => let erd := ERn.ofBits x
      ext32 ns fun imm32 => some (.movLImm32ERd imm32 erd)
  | .n1 =>
      nib ns fun a ns =>
      low3 a fun x => let erd := ERn.ofBits x
      ext32 ns fun imm32 => some (.addLImm32ERd imm32 erd)
  | .n2 =>
      nib ns fun a ns =>
      low3 a fun x => let erd := ERn.ofBits x
      ext32 ns fun imm32 => some (.cmpLImm32ERd imm32 erd)
  | .n3 =>
      nib ns fun a ns =>
      low3 a fun x => let erd := ERn.ofBits x
      ext32 ns fun imm32 => some (.subLImm32ERd imm32 erd)
  | .n4 =>
      nib ns fun a ns =>
      low3 a fun x => let erd := ERn.ofBits x
      ext32 ns fun imm32 => some (.orLImm32ERd imm32 erd)
  | .n5 =>
      nib ns fun a ns =>
      low3 a fun x => let erd := ERn.ofBits x
      ext32 ns fun imm32 => some (.xorLImm32ERd imm32 erd)
  | .n6 =>
      nib ns fun a ns =>
      low3 a fun x => let erd := ERn.ofBits x
      ext32 ns fun imm32 => some (.andLImm32ERd imm32 erd)
  | _ => none

/-- The codes that begin 7 C (R127). -/
def decode7C (ns : List Nib) : Option Instr :=
  nib ns fun a ns =>
  low3 a fun x => let erd := ERn.ofBits x
  lit .n0 ns fun ns =>
  nib ns fun a ns =>
  match a with
  | .n6 =>
      lit .n3 ns fun ns =>
      nib ns fun a ns => let rn := R8.ofNib a
      lit .n0 ns fun _ =>
      some (.btstRnAtERd rn erd)
  | .n7 =>
      nib ns fun a ns =>
      match a with
      | .n3 =>
          nib ns fun a ns =>
          low3 a fun imm3 =>
          lit .n0 ns fun _ =>
          some (.btstImm3AtERd imm3 erd)
      | .n4 =>
          nib ns fun a ns =>
          split3 a
            (fun imm3 =>
              lit .n0 ns fun _ =>
              some (.borImm3AtERd imm3 erd))
            (fun imm3 =>
              lit .n0 ns fun _ =>
              some (.biorImm3AtERd imm3 erd))
      | .n5 =>
          nib ns fun a ns =>
          split3 a
            (fun imm3 =>
              lit .n0 ns fun _ =>
              some (.bxorImm3AtERd imm3 erd))
            (fun imm3 =>
              lit .n0 ns fun _ =>
              some (.bixorImm3AtERd imm3 erd))
      | .n6 =>
          nib ns fun a ns =>
          split3 a
            (fun imm3 =>
              lit .n0 ns fun _ =>
              some (.bandImm3AtERd imm3 erd))
            (fun imm3 =>
              lit .n0 ns fun _ =>
              some (.biandImm3AtERd imm3 erd))
      | .n7 =>
          nib ns fun a ns =>
          split3 a
            (fun imm3 =>
              lit .n0 ns fun _ =>
              some (.bldImm3AtERd imm3 erd))
            (fun imm3 =>
              lit .n0 ns fun _ =>
              some (.bildImm3AtERd imm3 erd))
      | _ => none
  | _ => none

/-- The codes that begin 7 D (R127). -/
def decode7D (ns : List Nib) : Option Instr :=
  nib ns fun a ns =>
  low3 a fun x => let erd := ERn.ofBits x
  lit .n0 ns fun ns =>
  nib ns fun a ns =>
  match a with
  | .n6 =>
      nib ns fun a ns =>
      match a with
      | .n0 =>
          nib ns fun a ns => let rn := R8.ofNib a
          lit .n0 ns fun _ =>
          some (.bsetRnAtERd rn erd)
      | .n1 =>
          nib ns fun a ns => let rn := R8.ofNib a
          lit .n0 ns fun _ =>
          some (.bnotRnAtERd rn erd)
      | .n2 =>
          nib ns fun a ns => let rn := R8.ofNib a
          lit .n0 ns fun _ =>
          some (.bclrRnAtERd rn erd)
      | .n7 =>
          nib ns fun a ns =>
          split3 a
            (fun imm3 =>
              lit .n0 ns fun _ =>
              some (.bstImm3AtERd imm3 erd))
            (fun imm3 =>
              lit .n0 ns fun _ =>
              some (.bistImm3AtERd imm3 erd))
      | _ => none
  | .n7 =>
      nib ns fun a ns =>
      match a with
      | .n0 =>
          nib ns fun a ns =>
          low3 a fun imm3 =>
          lit .n0 ns fun _ =>
          some (.bsetImm3AtERd imm3 erd)
      | .n1 =>
          nib ns fun a ns =>
          low3 a fun imm3 =>
          lit .n0 ns fun _ =>
          some (.bnotImm3AtERd imm3 erd)
      | .n2 =>
          nib ns fun a ns =>
          low3 a fun imm3 =>
          lit .n0 ns fun _ =>
          some (.bclrImm3AtERd imm3 erd)
      | _ => none
  | _ => none

/-- The codes that begin 7 E (R127). -/
def decode7E (ns : List Nib) : Option Instr :=
  ext8 ns fun abs8 ns =>
  nib ns fun a ns =>
  match a with
  | .n6 =>
      lit .n3 ns fun ns =>
      nib ns fun a ns => let rn := R8.ofNib a
      lit .n0 ns fun _ =>
      some (.btstRnAbs8 rn abs8)
  | .n7 =>
      nib ns fun a ns =>
      match a with
      | .n3 =>
          nib ns fun a ns =>
          low3 a fun imm3 =>
          lit .n0 ns fun _ =>
          some (.btstImm3Abs8 imm3 abs8)
      | .n4 =>
          nib ns fun a ns =>
          split3 a
            (fun imm3 =>
              lit .n0 ns fun _ =>
              some (.borImm3Abs8 imm3 abs8))
            (fun imm3 =>
              lit .n0 ns fun _ =>
              some (.biorImm3Abs8 imm3 abs8))
      | .n5 =>
          nib ns fun a ns =>
          split3 a
            (fun imm3 =>
              lit .n0 ns fun _ =>
              some (.bxorImm3Abs8 imm3 abs8))
            (fun imm3 =>
              lit .n0 ns fun _ =>
              some (.bixorImm3Abs8 imm3 abs8))
      | .n6 =>
          nib ns fun a ns =>
          split3 a
            (fun imm3 =>
              lit .n0 ns fun _ =>
              some (.bandImm3Abs8 imm3 abs8))
            (fun imm3 =>
              lit .n0 ns fun _ =>
              some (.biandImm3Abs8 imm3 abs8))
      | .n7 =>
          nib ns fun a ns =>
          split3 a
            (fun imm3 =>
              lit .n0 ns fun _ =>
              some (.bldImm3Abs8 imm3 abs8))
            (fun imm3 =>
              lit .n0 ns fun _ =>
              some (.bildImm3Abs8 imm3 abs8))
      | _ => none
  | _ => none

/-- The codes that begin 7 F (R127). -/
def decode7F (ns : List Nib) : Option Instr :=
  ext8 ns fun abs8 ns =>
  nib ns fun a ns =>
  match a with
  | .n6 =>
      nib ns fun a ns =>
      match a with
      | .n0 =>
          nib ns fun a ns => let rn := R8.ofNib a
          lit .n0 ns fun _ =>
          some (.bsetRnAbs8 rn abs8)
      | .n1 =>
          nib ns fun a ns => let rn := R8.ofNib a
          lit .n0 ns fun _ =>
          some (.bnotRnAbs8 rn abs8)
      | .n2 =>
          nib ns fun a ns => let rn := R8.ofNib a
          lit .n0 ns fun _ =>
          some (.bclrRnAbs8 rn abs8)
      | .n7 =>
          nib ns fun a ns =>
          split3 a
            (fun imm3 =>
              lit .n0 ns fun _ =>
              some (.bstImm3Abs8 imm3 abs8))
            (fun imm3 =>
              lit .n0 ns fun _ =>
              some (.bistImm3Abs8 imm3 abs8))
      | _ => none
  | .n7 =>
      nib ns fun a ns =>
      match a with
      | .n0 =>
          nib ns fun a ns =>
          low3 a fun imm3 =>
          lit .n0 ns fun _ =>
          some (.bsetImm3Abs8 imm3 abs8)
      | .n1 =>
          nib ns fun a ns =>
          low3 a fun imm3 =>
          lit .n0 ns fun _ =>
          some (.bnotImm3Abs8 imm3 abs8)
      | .n2 =>
          nib ns fun a ns =>
          low3 a fun imm3 =>
          lit .n0 ns fun _ =>
          some (.bclrImm3Abs8 imm3 abs8)
      | _ => none
  | _ => none

/-- The codes that begin 7 (R127). -/
def decode7 (ns : List Nib) : Option Instr :=
  nib ns fun a ns =>
  match a with
  | .n0 =>
      nib ns fun a ns =>
      low3 a fun imm3 =>
      nib ns fun a _ => let rd := R8.ofNib a
      some (.bsetImm3Rd imm3 rd)
  | .n1 =>
      nib ns fun a ns =>
      low3 a fun imm3 =>
      nib ns fun a _ => let rd := R8.ofNib a
      some (.bnotImm3Rd imm3 rd)
  | .n2 =>
      nib ns fun a ns =>
      low3 a fun imm3 =>
      nib ns fun a _ => let rd := R8.ofNib a
      some (.bclrImm3Rd imm3 rd)
  | .n3 =>
      nib ns fun a ns =>
      low3 a fun imm3 =>
      nib ns fun a _ => let rd := R8.ofNib a
      some (.btstImm3Rd imm3 rd)
  | .n4 =>
      nib ns fun a ns =>
      split3 a
        (fun imm3 =>
          nib ns fun a _ => let rd := R8.ofNib a
          some (.borImm3Rd imm3 rd))
        (fun imm3 =>
          nib ns fun a _ => let rd := R8.ofNib a
          some (.biorImm3Rd imm3 rd))
  | .n5 =>
      nib ns fun a ns =>
      split3 a
        (fun imm3 =>
          nib ns fun a _ => let rd := R8.ofNib a
          some (.bxorImm3Rd imm3 rd))
        (fun imm3 =>
          nib ns fun a _ => let rd := R8.ofNib a
          some (.bixorImm3Rd imm3 rd))
  | .n6 =>
      nib ns fun a ns =>
      split3 a
        (fun imm3 =>
          nib ns fun a _ => let rd := R8.ofNib a
          some (.bandImm3Rd imm3 rd))
        (fun imm3 =>
          nib ns fun a _ => let rd := R8.ofNib a
          some (.biandImm3Rd imm3 rd))
  | .n7 =>
      nib ns fun a ns =>
      split3 a
        (fun imm3 =>
          nib ns fun a _ => let rd := R8.ofNib a
          some (.bldImm3Rd imm3 rd))
        (fun imm3 =>
          nib ns fun a _ => let rd := R8.ofNib a
          some (.bildImm3Rd imm3 rd))
  | .n8 =>
      nib ns fun a ns =>
      low3 a fun x => let erd := ERn.ofBits x
      lit .n0 ns fun ns =>
      lit .n6 ns fun ns =>
      nib ns fun a ns =>
      match a with
      | .nA =>
          nib ns fun a ns =>
          match a with
          | .n2 =>
              nib ns fun a ns => let rd := R8.ofNib a
              lit .n0 ns fun ns =>
              lit .n0 ns fun ns =>
              ext24 ns fun disp24 => some (.movBD24ERsRd disp24 erd rd)
          | .nA =>
              nib ns fun a ns => let rs := R8.ofNib a
              lit .n0 ns fun ns =>
              lit .n0 ns fun ns =>
              ext24 ns fun disp24 => some (.movBRsD24ERd rs disp24 erd)
          | _ => none
      | .nB =>
          nib ns fun a ns =>
          match a with
          | .n2 =>
              nib ns fun a ns => let rd := R16.ofNib a
              lit .n0 ns fun ns =>
              lit .n0 ns fun ns =>
              ext24 ns fun disp24 => some (.movWD24ERsRd disp24 erd rd)
          | .nA =>
              nib ns fun a ns => let rs := R16.ofNib a
              lit .n0 ns fun ns =>
              lit .n0 ns fun ns =>
              ext24 ns fun disp24 => some (.movWRsD24ERd rs disp24 erd)
          | _ => none
      | _ => none
  | .n9 => decode79 ns
  | .nA => decode7A ns
  | .nB =>
      nib ns fun a ns =>
      match a with
      | .n5 =>
          lit .nC ns fun ns =>
          lit .n5 ns fun ns =>
          lit .n9 ns fun ns =>
          lit .n8 ns fun ns =>
          lit .nF ns fun _ =>
          some (.eepmovB)
      | .nD =>
          lit .n4 ns fun ns =>
          lit .n5 ns fun ns =>
          lit .n9 ns fun ns =>
          lit .n8 ns fun ns =>
          lit .nF ns fun _ =>
          some (.eepmovW)
      | _ => none
  | .nC => decode7C ns
  | .nD => decode7D ns
  | .nE => decode7E ns
  | .nF => decode7F ns

/-- The instruction whose code the nibbles begin with, as the unique row of R127 all of whose fixed bits match
(R125, R130); `none` for an undefined code (R131). Total: too few nibbles give `none`. POP and PUSH are taken
before the MOV rows whose codes they are (R128). -/
def decodeNibs (ns : List Nib) : Option Instr :=
  nib ns fun a ns =>
  match a with
  | .n0 => decode0 ns
  | .n1 => decode1 ns
  | .n2 =>
      nib ns fun a ns => let rd := R8.ofNib a
      ext8 ns fun abs8 _ => some (.movBAbs8Rd abs8 rd)
  | .n3 =>
      nib ns fun a ns => let rs := R8.ofNib a
      ext8 ns fun abs8 _ => some (.movBRsAbs8 rs abs8)
  | .n4 => decode4 ns
  | .n5 => decode5 ns
  | .n6 => decode6 ns
  | .n7 => decode7 ns
  | .n8 =>
      nib ns fun a ns => let rd := R8.ofNib a
      ext8 ns fun imm8 _ => some (.addBImm8Rd imm8 rd)
  | .n9 =>
      nib ns fun a ns => let rd := R8.ofNib a
      ext8 ns fun imm8 _ => some (.addxImm8Rd imm8 rd)
  | .nA =>
      nib ns fun a ns => let rd := R8.ofNib a
      ext8 ns fun imm8 _ => some (.cmpBImm8Rd imm8 rd)
  | .nB =>
      nib ns fun a ns => let rd := R8.ofNib a
      ext8 ns fun imm8 _ => some (.subxImm8Rd imm8 rd)
  | .nC =>
      nib ns fun a ns => let rd := R8.ofNib a
      ext8 ns fun imm8 _ => some (.orBImm8Rd imm8 rd)
  | .nD =>
      nib ns fun a ns => let rd := R8.ofNib a
      ext8 ns fun imm8 _ => some (.xorBImm8Rd imm8 rd)
  | .nE =>
      nib ns fun a ns => let rd := R8.ofNib a
      ext8 ns fun imm8 _ => some (.andBImm8Rd imm8 rd)
  | .nF =>
      nib ns fun a ns => let rd := R8.ofNib a
      ext8 ns fun imm8 _ => some (.movBImm8Rd imm8 rd)

/-- The code of an instruction nibble by nibble, as the encoding column of R127 prints it. -/
def encodeNibs : Instr → List Nib
  | .movBRsRd rs rd => [.n0, .nC, rs.nib, rd.nib]
  | .movWRsRd rs rd => [.n0, .nD, rs.nib, rd.nib]
  | .movLERsERd ers erd => [.n0, .nF, encHigh3 ers.bits, encLow3 erd.bits]
  | .movBImm8Rd imm8 rd => [.nF, rd.nib] ++ nibs8 imm8
  | .movBAtERsRd ers rd => [.n6, .n8, encLow3 ers.bits, rd.nib]
  | .movBD16ERsRd disp16 ers rd => [.n6, .nE, encLow3 ers.bits, rd.nib] ++ nibs16 disp16
  | .movBD24ERsRd disp24 ers rd => [.n7, .n8, encLow3 ers.bits, .n0, .n6, .nA, .n2, rd.nib, .n0, .n0] ++ nibs24 disp24
  | .movBPostERsRd ers rd => [.n6, .nC, encLow3 ers.bits, rd.nib]
  | .movBAbs8Rd abs8 rd => [.n2, rd.nib] ++ nibs8 abs8
  | .movBAbs16Rd abs16 rd => [.n6, .nA, .n0, rd.nib] ++ nibs16 abs16
  | .movBAbs24Rd abs24 rd => [.n6, .nA, .n2, rd.nib, .n0, .n0] ++ nibs24 abs24
  | .movWImm16Rd imm16 rd => [.n7, .n9, .n0, rd.nib] ++ nibs16 imm16
  | .movWAtERsRd ers rd => [.n6, .n9, encLow3 ers.bits, rd.nib]
  | .movWD16ERsRd disp16 ers rd => [.n6, .nF, encLow3 ers.bits, rd.nib] ++ nibs16 disp16
  | .movWD24ERsRd disp24 ers rd => [.n7, .n8, encLow3 ers.bits, .n0, .n6, .nB, .n2, rd.nib, .n0, .n0] ++ nibs24 disp24
  | .movWPostERsRd ers rd => [.n6, .nD, encLow3 ers.bits, rd.nib]
  | .movWAbs16Rd abs16 rd => [.n6, .nB, .n0, rd.nib] ++ nibs16 abs16
  | .movWAbs24Rd abs24 rd => [.n6, .nB, .n2, rd.nib, .n0, .n0] ++ nibs24 abs24
  | .movLImm32ERd imm32 erd => [.n7, .nA, .n0, encLow3 erd.bits] ++ nibs32 imm32
  | .movLAtERsERd ers erd => [.n0, .n1, .n0, .n0, .n6, .n9, encLow3 ers.bits, encLow3 erd.bits]
  | .movLD16ERsERd disp16 ers erd => [.n0, .n1, .n0, .n0, .n6, .nF, encLow3 ers.bits, encLow3 erd.bits] ++ nibs16 disp16
  | .movLD24ERsERd disp24 ers erd => [.n0, .n1, .n0, .n0, .n7, .n8, encLow3 ers.bits, .n0, .n6, .nB, .n2, encLow3 erd.bits, .n0, .n0] ++ nibs24 disp24
  | .movLPostERsERd ers erd => [.n0, .n1, .n0, .n0, .n6, .nD, encLow3 ers.bits, encLow3 erd.bits]
  | .movLAbs16ERd abs16 erd => [.n0, .n1, .n0, .n0, .n6, .nB, .n0, encLow3 erd.bits] ++ nibs16 abs16
  | .movLAbs24ERd abs24 erd => [.n0, .n1, .n0, .n0, .n6, .nB, .n2, encLow3 erd.bits, .n0, .n0] ++ nibs24 abs24
  | .movBRsAtERd rs erd => [.n6, .n8, encHigh3 erd.bits, rs.nib]
  | .movBRsD16ERd rs disp16 erd => [.n6, .nE, encHigh3 erd.bits, rs.nib] ++ nibs16 disp16
  | .movBRsD24ERd rs disp24 erd => [.n7, .n8, encLow3 erd.bits, .n0, .n6, .nA, .nA, rs.nib, .n0, .n0] ++ nibs24 disp24
  | .movBRsPreERd rs erd => [.n6, .nC, encHigh3 erd.bits, rs.nib]
  | .movBRsAbs8 rs abs8 => [.n3, rs.nib] ++ nibs8 abs8
  | .movBRsAbs16 rs abs16 => [.n6, .nA, .n8, rs.nib] ++ nibs16 abs16
  | .movBRsAbs24 rs abs24 => [.n6, .nA, .nA, rs.nib, .n0, .n0] ++ nibs24 abs24
  | .movWRsAtERd rs erd => [.n6, .n9, encHigh3 erd.bits, rs.nib]
  | .movWRsD16ERd rs disp16 erd => [.n6, .nF, encHigh3 erd.bits, rs.nib] ++ nibs16 disp16
  | .movWRsD24ERd rs disp24 erd => [.n7, .n8, encLow3 erd.bits, .n0, .n6, .nB, .nA, rs.nib, .n0, .n0] ++ nibs24 disp24
  | .movWRsPreERd rs erd => [.n6, .nD, encHigh3 erd.bits, rs.nib]
  | .movWRsAbs16 rs abs16 => [.n6, .nB, .n8, rs.nib] ++ nibs16 abs16
  | .movWRsAbs24 rs abs24 => [.n6, .nB, .nA, rs.nib, .n0, .n0] ++ nibs24 abs24
  | .movLERsAtERd ers erd => [.n0, .n1, .n0, .n0, .n6, .n9, encHigh3 erd.bits, encLow3 ers.bits]
  | .movLERsD16ERd ers disp16 erd => [.n0, .n1, .n0, .n0, .n6, .nF, encHigh3 erd.bits, encLow3 ers.bits] ++ nibs16 disp16
  | .movLERsD24ERd ers disp24 erd => [.n0, .n1, .n0, .n0, .n7, .n8, encHigh3 erd.bits, .n0, .n6, .nB, .nA, encLow3 ers.bits, .n0, .n0] ++ nibs24 disp24
  | .movLERsPreERd ers erd => [.n0, .n1, .n0, .n0, .n6, .nD, encHigh3 erd.bits, encLow3 ers.bits]
  | .movLERsAbs16 ers abs16 => [.n0, .n1, .n0, .n0, .n6, .nB, .n8, encLow3 ers.bits] ++ nibs16 abs16
  | .movLERsAbs24 ers abs24 => [.n0, .n1, .n0, .n0, .n6, .nB, .nA, encLow3 ers.bits, .n0, .n0] ++ nibs24 abs24
  | .movfpeAbs16Rd abs16 rd => [.n6, .nA, .n4, rd.nib] ++ nibs16 abs16
  | .movtpeRsAbs16 rs abs16 => [.n6, .nA, .nC, rs.nib] ++ nibs16 abs16
  | .popWRn rn => [.n6, .nD, .n7, rn.nib]
  | .popLERn ern => [.n0, .n1, .n0, .n0, .n6, .nD, .n7, encLow3 ern.bits]
  | .pushWRn rn => [.n6, .nD, .nF, rn.nib]
  | .pushLERn ern => [.n0, .n1, .n0, .n0, .n6, .nD, .nF, encLow3 ern.bits]
  | .addBImm8Rd imm8 rd => [.n8, rd.nib] ++ nibs8 imm8
  | .addBRsRd rs rd => [.n0, .n8, rs.nib, rd.nib]
  | .addWImm16Rd imm16 rd => [.n7, .n9, .n1, rd.nib] ++ nibs16 imm16
  | .addWRsRd rs rd => [.n0, .n9, rs.nib, rd.nib]
  | .addLImm32ERd imm32 erd => [.n7, .nA, .n1, encLow3 erd.bits] ++ nibs32 imm32
  | .addLERsERd ers erd => [.n0, .nA, encHigh3 ers.bits, encLow3 erd.bits]
  | .addsOneERd erd => [.n0, .nB, .n0, encLow3 erd.bits]
  | .addsTwoERd erd => [.n0, .nB, .n8, encLow3 erd.bits]
  | .addsFourERd erd => [.n0, .nB, .n9, encLow3 erd.bits]
  | .addxImm8Rd imm8 rd => [.n9, rd.nib] ++ nibs8 imm8
  | .addxRsRd rs rd => [.n0, .nE, rs.nib, rd.nib]
  | .cmpBImm8Rd imm8 rd => [.nA, rd.nib] ++ nibs8 imm8
  | .cmpBRsRd rs rd => [.n1, .nC, rs.nib, rd.nib]
  | .cmpWImm16Rd imm16 rd => [.n7, .n9, .n2, rd.nib] ++ nibs16 imm16
  | .cmpWRsRd rs rd => [.n1, .nD, rs.nib, rd.nib]
  | .cmpLImm32ERd imm32 erd => [.n7, .nA, .n2, encLow3 erd.bits] ++ nibs32 imm32
  | .cmpLERsERd ers erd => [.n1, .nF, encHigh3 ers.bits, encLow3 erd.bits]
  | .subBRsRd rs rd => [.n1, .n8, rs.nib, rd.nib]
  | .subWImm16Rd imm16 rd => [.n7, .n9, .n3, rd.nib] ++ nibs16 imm16
  | .subWRsRd rs rd => [.n1, .n9, rs.nib, rd.nib]
  | .subLImm32ERd imm32 erd => [.n7, .nA, .n3, encLow3 erd.bits] ++ nibs32 imm32
  | .subLERsERd ers erd => [.n1, .nA, encHigh3 ers.bits, encLow3 erd.bits]
  | .subsOneERd erd => [.n1, .nB, .n0, encLow3 erd.bits]
  | .subsTwoERd erd => [.n1, .nB, .n8, encLow3 erd.bits]
  | .subsFourERd erd => [.n1, .nB, .n9, encLow3 erd.bits]
  | .subxImm8Rd imm8 rd => [.nB, rd.nib] ++ nibs8 imm8
  | .subxRsRd rs rd => [.n1, .nE, rs.nib, rd.nib]
  | .daaRd rd => [.n0, .nF, .n0, rd.nib]
  | .dasRd rd => [.n1, .nF, .n0, rd.nib]
  | .incBRd rd => [.n0, .nA, .n0, rd.nib]
  | .incWOneRd rd => [.n0, .nB, .n5, rd.nib]
  | .incWTwoRd rd => [.n0, .nB, .nD, rd.nib]
  | .incLOneERd erd => [.n0, .nB, .n7, encLow3 erd.bits]
  | .incLTwoERd erd => [.n0, .nB, .nF, encLow3 erd.bits]
  | .decBRd rd => [.n1, .nA, .n0, rd.nib]
  | .decWOneRd rd => [.n1, .nB, .n5, rd.nib]
  | .decWTwoRd rd => [.n1, .nB, .nD, rd.nib]
  | .decLOneERd erd => [.n1, .nB, .n7, encLow3 erd.bits]
  | .decLTwoERd erd => [.n1, .nB, .nF, encLow3 erd.bits]
  | .negBRd rd => [.n1, .n7, .n8, rd.nib]
  | .negWRd rd => [.n1, .n7, .n9, rd.nib]
  | .negLERd erd => [.n1, .n7, .nB, encLow3 erd.bits]
  | .extuWRd rd => [.n1, .n7, .n5, rd.nib]
  | .extuLERd erd => [.n1, .n7, .n7, encLow3 erd.bits]
  | .extsWRd rd => [.n1, .n7, .nD, rd.nib]
  | .extsLERd erd => [.n1, .n7, .nF, encLow3 erd.bits]
  | .mulxuBRsRd rs rd => [.n5, .n0, rs.nib, rd.nib]
  | .mulxuWRsERd rs erd => [.n5, .n2, rs.nib, encLow3 erd.bits]
  | .mulxsBRsRd rs rd => [.n0, .n1, .nC, .n0, .n5, .n0, rs.nib, rd.nib]
  | .mulxsWRsERd rs erd => [.n0, .n1, .nC, .n0, .n5, .n2, rs.nib, encLow3 erd.bits]
  | .divxuBRsRd rs rd => [.n5, .n1, rs.nib, rd.nib]
  | .divxuWRsERd rs erd => [.n5, .n3, rs.nib, encLow3 erd.bits]
  | .divxsBRsRd rs rd => [.n0, .n1, .nD, .n0, .n5, .n1, rs.nib, rd.nib]
  | .divxsWRsERd rs erd => [.n0, .n1, .nD, .n0, .n5, .n3, rs.nib, encLow3 erd.bits]
  | .andBImm8Rd imm8 rd => [.nE, rd.nib] ++ nibs8 imm8
  | .andBRsRd rs rd => [.n1, .n6, rs.nib, rd.nib]
  | .andWImm16Rd imm16 rd => [.n7, .n9, .n6, rd.nib] ++ nibs16 imm16
  | .andWRsRd rs rd => [.n6, .n6, rs.nib, rd.nib]
  | .andLImm32ERd imm32 erd => [.n7, .nA, .n6, encLow3 erd.bits] ++ nibs32 imm32
  | .andLERsERd ers erd => [.n0, .n1, .nF, .n0, .n6, .n6, encLow3 ers.bits, encLow3 erd.bits]
  | .orBImm8Rd imm8 rd => [.nC, rd.nib] ++ nibs8 imm8
  | .orBRsRd rs rd => [.n1, .n4, rs.nib, rd.nib]
  | .orWImm16Rd imm16 rd => [.n7, .n9, .n4, rd.nib] ++ nibs16 imm16
  | .orWRsRd rs rd => [.n6, .n4, rs.nib, rd.nib]
  | .orLImm32ERd imm32 erd => [.n7, .nA, .n4, encLow3 erd.bits] ++ nibs32 imm32
  | .orLERsERd ers erd => [.n0, .n1, .nF, .n0, .n6, .n4, encLow3 ers.bits, encLow3 erd.bits]
  | .xorBImm8Rd imm8 rd => [.nD, rd.nib] ++ nibs8 imm8
  | .xorBRsRd rs rd => [.n1, .n5, rs.nib, rd.nib]
  | .xorWImm16Rd imm16 rd => [.n7, .n9, .n5, rd.nib] ++ nibs16 imm16
  | .xorWRsRd rs rd => [.n6, .n5, rs.nib, rd.nib]
  | .xorLImm32ERd imm32 erd => [.n7, .nA, .n5, encLow3 erd.bits] ++ nibs32 imm32
  | .xorLERsERd ers erd => [.n0, .n1, .nF, .n0, .n6, .n5, encLow3 ers.bits, encLow3 erd.bits]
  | .notBRd rd => [.n1, .n7, .n0, rd.nib]
  | .notWRd rd => [.n1, .n7, .n1, rd.nib]
  | .notLERd erd => [.n1, .n7, .n3, encLow3 erd.bits]
  | .shalBRd rd => [.n1, .n0, .n8, rd.nib]
  | .shalWRd rd => [.n1, .n0, .n9, rd.nib]
  | .shalLERd erd => [.n1, .n0, .nB, encLow3 erd.bits]
  | .sharBRd rd => [.n1, .n1, .n8, rd.nib]
  | .sharWRd rd => [.n1, .n1, .n9, rd.nib]
  | .sharLERd erd => [.n1, .n1, .nB, encLow3 erd.bits]
  | .shllBRd rd => [.n1, .n0, .n0, rd.nib]
  | .shllWRd rd => [.n1, .n0, .n1, rd.nib]
  | .shllLERd erd => [.n1, .n0, .n3, encLow3 erd.bits]
  | .shlrBRd rd => [.n1, .n1, .n0, rd.nib]
  | .shlrWRd rd => [.n1, .n1, .n1, rd.nib]
  | .shlrLERd erd => [.n1, .n1, .n3, encLow3 erd.bits]
  | .rotlBRd rd => [.n1, .n2, .n8, rd.nib]
  | .rotlWRd rd => [.n1, .n2, .n9, rd.nib]
  | .rotlLERd erd => [.n1, .n2, .nB, encLow3 erd.bits]
  | .rotrBRd rd => [.n1, .n3, .n8, rd.nib]
  | .rotrWRd rd => [.n1, .n3, .n9, rd.nib]
  | .rotrLERd erd => [.n1, .n3, .nB, encLow3 erd.bits]
  | .rotxlBRd rd => [.n1, .n2, .n0, rd.nib]
  | .rotxlWRd rd => [.n1, .n2, .n1, rd.nib]
  | .rotxlLERd erd => [.n1, .n2, .n3, encLow3 erd.bits]
  | .rotxrBRd rd => [.n1, .n3, .n0, rd.nib]
  | .rotxrWRd rd => [.n1, .n3, .n1, rd.nib]
  | .rotxrLERd erd => [.n1, .n3, .n3, encLow3 erd.bits]
  | .bsetImm3Rd imm3 rd => [.n7, .n0, encLow3 imm3, rd.nib]
  | .bsetImm3AtERd imm3 erd => [.n7, .nD, encLow3 erd.bits, .n0, .n7, .n0, encLow3 imm3, .n0]
  | .bsetImm3Abs8 imm3 abs8 => [.n7, .nF] ++ nibs8 abs8 ++ [.n7, .n0, encLow3 imm3, .n0]
  | .bsetRnRd rn rd => [.n6, .n0, rn.nib, rd.nib]
  | .bsetRnAtERd rn erd => [.n7, .nD, encLow3 erd.bits, .n0, .n6, .n0, rn.nib, .n0]
  | .bsetRnAbs8 rn abs8 => [.n7, .nF] ++ nibs8 abs8 ++ [.n6, .n0, rn.nib, .n0]
  | .bclrImm3Rd imm3 rd => [.n7, .n2, encLow3 imm3, rd.nib]
  | .bclrImm3AtERd imm3 erd => [.n7, .nD, encLow3 erd.bits, .n0, .n7, .n2, encLow3 imm3, .n0]
  | .bclrImm3Abs8 imm3 abs8 => [.n7, .nF] ++ nibs8 abs8 ++ [.n7, .n2, encLow3 imm3, .n0]
  | .bclrRnRd rn rd => [.n6, .n2, rn.nib, rd.nib]
  | .bclrRnAtERd rn erd => [.n7, .nD, encLow3 erd.bits, .n0, .n6, .n2, rn.nib, .n0]
  | .bclrRnAbs8 rn abs8 => [.n7, .nF] ++ nibs8 abs8 ++ [.n6, .n2, rn.nib, .n0]
  | .bnotImm3Rd imm3 rd => [.n7, .n1, encLow3 imm3, rd.nib]
  | .bnotImm3AtERd imm3 erd => [.n7, .nD, encLow3 erd.bits, .n0, .n7, .n1, encLow3 imm3, .n0]
  | .bnotImm3Abs8 imm3 abs8 => [.n7, .nF] ++ nibs8 abs8 ++ [.n7, .n1, encLow3 imm3, .n0]
  | .bnotRnRd rn rd => [.n6, .n1, rn.nib, rd.nib]
  | .bnotRnAtERd rn erd => [.n7, .nD, encLow3 erd.bits, .n0, .n6, .n1, rn.nib, .n0]
  | .bnotRnAbs8 rn abs8 => [.n7, .nF] ++ nibs8 abs8 ++ [.n6, .n1, rn.nib, .n0]
  | .btstImm3Rd imm3 rd => [.n7, .n3, encLow3 imm3, rd.nib]
  | .btstImm3AtERd imm3 erd => [.n7, .nC, encLow3 erd.bits, .n0, .n7, .n3, encLow3 imm3, .n0]
  | .btstImm3Abs8 imm3 abs8 => [.n7, .nE] ++ nibs8 abs8 ++ [.n7, .n3, encLow3 imm3, .n0]
  | .btstRnRd rn rd => [.n6, .n3, rn.nib, rd.nib]
  | .btstRnAtERd rn erd => [.n7, .nC, encLow3 erd.bits, .n0, .n6, .n3, rn.nib, .n0]
  | .btstRnAbs8 rn abs8 => [.n7, .nE] ++ nibs8 abs8 ++ [.n6, .n3, rn.nib, .n0]
  | .bandImm3Rd imm3 rd => [.n7, .n6, encLow3 imm3, rd.nib]
  | .bandImm3AtERd imm3 erd => [.n7, .nC, encLow3 erd.bits, .n0, .n7, .n6, encLow3 imm3, .n0]
  | .bandImm3Abs8 imm3 abs8 => [.n7, .nE] ++ nibs8 abs8 ++ [.n7, .n6, encLow3 imm3, .n0]
  | .biandImm3Rd imm3 rd => [.n7, .n6, encHigh3 imm3, rd.nib]
  | .biandImm3AtERd imm3 erd => [.n7, .nC, encLow3 erd.bits, .n0, .n7, .n6, encHigh3 imm3, .n0]
  | .biandImm3Abs8 imm3 abs8 => [.n7, .nE] ++ nibs8 abs8 ++ [.n7, .n6, encHigh3 imm3, .n0]
  | .borImm3Rd imm3 rd => [.n7, .n4, encLow3 imm3, rd.nib]
  | .borImm3AtERd imm3 erd => [.n7, .nC, encLow3 erd.bits, .n0, .n7, .n4, encLow3 imm3, .n0]
  | .borImm3Abs8 imm3 abs8 => [.n7, .nE] ++ nibs8 abs8 ++ [.n7, .n4, encLow3 imm3, .n0]
  | .biorImm3Rd imm3 rd => [.n7, .n4, encHigh3 imm3, rd.nib]
  | .biorImm3AtERd imm3 erd => [.n7, .nC, encLow3 erd.bits, .n0, .n7, .n4, encHigh3 imm3, .n0]
  | .biorImm3Abs8 imm3 abs8 => [.n7, .nE] ++ nibs8 abs8 ++ [.n7, .n4, encHigh3 imm3, .n0]
  | .bxorImm3Rd imm3 rd => [.n7, .n5, encLow3 imm3, rd.nib]
  | .bxorImm3AtERd imm3 erd => [.n7, .nC, encLow3 erd.bits, .n0, .n7, .n5, encLow3 imm3, .n0]
  | .bxorImm3Abs8 imm3 abs8 => [.n7, .nE] ++ nibs8 abs8 ++ [.n7, .n5, encLow3 imm3, .n0]
  | .bixorImm3Rd imm3 rd => [.n7, .n5, encHigh3 imm3, rd.nib]
  | .bixorImm3AtERd imm3 erd => [.n7, .nC, encLow3 erd.bits, .n0, .n7, .n5, encHigh3 imm3, .n0]
  | .bixorImm3Abs8 imm3 abs8 => [.n7, .nE] ++ nibs8 abs8 ++ [.n7, .n5, encHigh3 imm3, .n0]
  | .bldImm3Rd imm3 rd => [.n7, .n7, encLow3 imm3, rd.nib]
  | .bldImm3AtERd imm3 erd => [.n7, .nC, encLow3 erd.bits, .n0, .n7, .n7, encLow3 imm3, .n0]
  | .bldImm3Abs8 imm3 abs8 => [.n7, .nE] ++ nibs8 abs8 ++ [.n7, .n7, encLow3 imm3, .n0]
  | .bildImm3Rd imm3 rd => [.n7, .n7, encHigh3 imm3, rd.nib]
  | .bildImm3AtERd imm3 erd => [.n7, .nC, encLow3 erd.bits, .n0, .n7, .n7, encHigh3 imm3, .n0]
  | .bildImm3Abs8 imm3 abs8 => [.n7, .nE] ++ nibs8 abs8 ++ [.n7, .n7, encHigh3 imm3, .n0]
  | .bstImm3Rd imm3 rd => [.n6, .n7, encLow3 imm3, rd.nib]
  | .bstImm3AtERd imm3 erd => [.n7, .nD, encLow3 erd.bits, .n0, .n6, .n7, encLow3 imm3, .n0]
  | .bstImm3Abs8 imm3 abs8 => [.n7, .nF] ++ nibs8 abs8 ++ [.n6, .n7, encLow3 imm3, .n0]
  | .bistImm3Rd imm3 rd => [.n6, .n7, encHigh3 imm3, rd.nib]
  | .bistImm3AtERd imm3 erd => [.n7, .nD, encLow3 erd.bits, .n0, .n6, .n7, encHigh3 imm3, .n0]
  | .bistImm3Abs8 imm3 abs8 => [.n7, .nF] ++ nibs8 abs8 ++ [.n6, .n7, encHigh3 imm3, .n0]
  | .braD8 disp8 => [.n4, .n0] ++ nibs8 disp8
  | .brnD8 disp8 => [.n4, .n1] ++ nibs8 disp8
  | .bhiD8 disp8 => [.n4, .n2] ++ nibs8 disp8
  | .blsD8 disp8 => [.n4, .n3] ++ nibs8 disp8
  | .bccD8 disp8 => [.n4, .n4] ++ nibs8 disp8
  | .bcsD8 disp8 => [.n4, .n5] ++ nibs8 disp8
  | .bneD8 disp8 => [.n4, .n6] ++ nibs8 disp8
  | .beqD8 disp8 => [.n4, .n7] ++ nibs8 disp8
  | .bvcD8 disp8 => [.n4, .n8] ++ nibs8 disp8
  | .bvsD8 disp8 => [.n4, .n9] ++ nibs8 disp8
  | .bplD8 disp8 => [.n4, .nA] ++ nibs8 disp8
  | .bmiD8 disp8 => [.n4, .nB] ++ nibs8 disp8
  | .bgeD8 disp8 => [.n4, .nC] ++ nibs8 disp8
  | .bltD8 disp8 => [.n4, .nD] ++ nibs8 disp8
  | .bgtD8 disp8 => [.n4, .nE] ++ nibs8 disp8
  | .bleD8 disp8 => [.n4, .nF] ++ nibs8 disp8
  | .braD16 disp16 => [.n5, .n8, .n0, .n0] ++ nibs16 disp16
  | .brnD16 disp16 => [.n5, .n8, .n1, .n0] ++ nibs16 disp16
  | .bhiD16 disp16 => [.n5, .n8, .n2, .n0] ++ nibs16 disp16
  | .blsD16 disp16 => [.n5, .n8, .n3, .n0] ++ nibs16 disp16
  | .bccD16 disp16 => [.n5, .n8, .n4, .n0] ++ nibs16 disp16
  | .bcsD16 disp16 => [.n5, .n8, .n5, .n0] ++ nibs16 disp16
  | .bneD16 disp16 => [.n5, .n8, .n6, .n0] ++ nibs16 disp16
  | .beqD16 disp16 => [.n5, .n8, .n7, .n0] ++ nibs16 disp16
  | .bvcD16 disp16 => [.n5, .n8, .n8, .n0] ++ nibs16 disp16
  | .bvsD16 disp16 => [.n5, .n8, .n9, .n0] ++ nibs16 disp16
  | .bplD16 disp16 => [.n5, .n8, .nA, .n0] ++ nibs16 disp16
  | .bmiD16 disp16 => [.n5, .n8, .nB, .n0] ++ nibs16 disp16
  | .bgeD16 disp16 => [.n5, .n8, .nC, .n0] ++ nibs16 disp16
  | .bltD16 disp16 => [.n5, .n8, .nD, .n0] ++ nibs16 disp16
  | .bgtD16 disp16 => [.n5, .n8, .nE, .n0] ++ nibs16 disp16
  | .bleD16 disp16 => [.n5, .n8, .nF, .n0] ++ nibs16 disp16
  | .jmpAtERn ern => [.n5, .n9, encLow3 ern.bits, .n0]
  | .jmpAbs24 abs24 => [.n5, .nA] ++ nibs24 abs24
  | .jmpInd8 abs8 => [.n5, .nB] ++ nibs8 abs8
  | .bsrD8 disp8 => [.n5, .n5] ++ nibs8 disp8
  | .bsrD16 disp16 => [.n5, .nC, .n0, .n0] ++ nibs16 disp16
  | .jsrAtERn ern => [.n5, .nD, encLow3 ern.bits, .n0]
  | .jsrAbs24 abs24 => [.n5, .nE] ++ nibs24 abs24
  | .jsrInd8 abs8 => [.n5, .nF] ++ nibs8 abs8
  | .rts => [.n5, .n4, .n7, .n0]
  | .ldcImm8Ccr imm8 => [.n0, .n7] ++ nibs8 imm8
  | .ldcRsCcr rs => [.n0, .n3, .n0, rs.nib]
  | .ldcAtERsCcr ers => [.n0, .n1, .n4, .n0, .n6, .n9, encLow3 ers.bits, .n0]
  | .ldcD16ERsCcr disp16 ers => [.n0, .n1, .n4, .n0, .n6, .nF, encLow3 ers.bits, .n0] ++ nibs16 disp16
  | .ldcD24ERsCcr disp24 ers => [.n0, .n1, .n4, .n0, .n7, .n8, encLow3 ers.bits, .n0, .n6, .nB, .n2, .n0, .n0, .n0] ++ nibs24 disp24
  | .ldcPostERsCcr ers => [.n0, .n1, .n4, .n0, .n6, .nD, encLow3 ers.bits, .n0]
  | .ldcAbs16Ccr abs16 => [.n0, .n1, .n4, .n0, .n6, .nB, .n0, .n0] ++ nibs16 abs16
  | .ldcAbs24Ccr abs24 => [.n0, .n1, .n4, .n0, .n6, .nB, .n2, .n0, .n0, .n0] ++ nibs24 abs24
  | .stcCcrRd rd => [.n0, .n2, .n0, rd.nib]
  | .stcCcrAtERd erd => [.n0, .n1, .n4, .n0, .n6, .n9, encHigh3 erd.bits, .n0]
  | .stcCcrD16ERd disp16 erd => [.n0, .n1, .n4, .n0, .n6, .nF, encHigh3 erd.bits, .n0] ++ nibs16 disp16
  | .stcCcrD24ERd disp24 erd => [.n0, .n1, .n4, .n0, .n7, .n8, encLow3 erd.bits, .n0, .n6, .nB, .nA, .n0, .n0, .n0] ++ nibs24 disp24
  | .stcCcrPreERd erd => [.n0, .n1, .n4, .n0, .n6, .nD, encHigh3 erd.bits, .n0]
  | .stcCcrAbs16 abs16 => [.n0, .n1, .n4, .n0, .n6, .nB, .n8, .n0] ++ nibs16 abs16
  | .stcCcrAbs24 abs24 => [.n0, .n1, .n4, .n0, .n6, .nB, .nA, .n0, .n0, .n0] ++ nibs24 abs24
  | .andcImm8Ccr imm8 => [.n0, .n6] ++ nibs8 imm8
  | .orcImm8Ccr imm8 => [.n0, .n4] ++ nibs8 imm8
  | .xorcImm8Ccr imm8 => [.n0, .n5] ++ nibs8 imm8
  | .nop => [.n0, .n0, .n0, .n0]
  | .rte => [.n5, .n6, .n7, .n0]
  | .trapaImm2 imm2 => [.n5, .n7, encLow2 imm2, .n0]
  | .sleep => [.n0, .n1, .n8, .n0]
  | .eepmovB => [.n7, .nB, .n5, .nC, .n5, .n9, .n8, .nF]
  | .eepmovW => [.n7, .nB, .nD, .n4, .n5, .n9, .n8, .nF]

/-- The length in bytes of an instruction (R101, R125). -/
def Instr.length : Instr → Nat
  | .movBRsRd _ _ => 2
  | .movWRsRd _ _ => 2
  | .movLERsERd _ _ => 2
  | .movBImm8Rd _ _ => 2
  | .movBAtERsRd _ _ => 2
  | .movBD16ERsRd _ _ _ => 4
  | .movBD24ERsRd _ _ _ => 8
  | .movBPostERsRd _ _ => 2
  | .movBAbs8Rd _ _ => 2
  | .movBAbs16Rd _ _ => 4
  | .movBAbs24Rd _ _ => 6
  | .movWImm16Rd _ _ => 4
  | .movWAtERsRd _ _ => 2
  | .movWD16ERsRd _ _ _ => 4
  | .movWD24ERsRd _ _ _ => 8
  | .movWPostERsRd _ _ => 2
  | .movWAbs16Rd _ _ => 4
  | .movWAbs24Rd _ _ => 6
  | .movLImm32ERd _ _ => 6
  | .movLAtERsERd _ _ => 4
  | .movLD16ERsERd _ _ _ => 6
  | .movLD24ERsERd _ _ _ => 10
  | .movLPostERsERd _ _ => 4
  | .movLAbs16ERd _ _ => 6
  | .movLAbs24ERd _ _ => 8
  | .movBRsAtERd _ _ => 2
  | .movBRsD16ERd _ _ _ => 4
  | .movBRsD24ERd _ _ _ => 8
  | .movBRsPreERd _ _ => 2
  | .movBRsAbs8 _ _ => 2
  | .movBRsAbs16 _ _ => 4
  | .movBRsAbs24 _ _ => 6
  | .movWRsAtERd _ _ => 2
  | .movWRsD16ERd _ _ _ => 4
  | .movWRsD24ERd _ _ _ => 8
  | .movWRsPreERd _ _ => 2
  | .movWRsAbs16 _ _ => 4
  | .movWRsAbs24 _ _ => 6
  | .movLERsAtERd _ _ => 4
  | .movLERsD16ERd _ _ _ => 6
  | .movLERsD24ERd _ _ _ => 10
  | .movLERsPreERd _ _ => 4
  | .movLERsAbs16 _ _ => 6
  | .movLERsAbs24 _ _ => 8
  | .movfpeAbs16Rd _ _ => 4
  | .movtpeRsAbs16 _ _ => 4
  | .popWRn _ => 2
  | .popLERn _ => 4
  | .pushWRn _ => 2
  | .pushLERn _ => 4
  | .addBImm8Rd _ _ => 2
  | .addBRsRd _ _ => 2
  | .addWImm16Rd _ _ => 4
  | .addWRsRd _ _ => 2
  | .addLImm32ERd _ _ => 6
  | .addLERsERd _ _ => 2
  | .addsOneERd _ => 2
  | .addsTwoERd _ => 2
  | .addsFourERd _ => 2
  | .addxImm8Rd _ _ => 2
  | .addxRsRd _ _ => 2
  | .cmpBImm8Rd _ _ => 2
  | .cmpBRsRd _ _ => 2
  | .cmpWImm16Rd _ _ => 4
  | .cmpWRsRd _ _ => 2
  | .cmpLImm32ERd _ _ => 6
  | .cmpLERsERd _ _ => 2
  | .subBRsRd _ _ => 2
  | .subWImm16Rd _ _ => 4
  | .subWRsRd _ _ => 2
  | .subLImm32ERd _ _ => 6
  | .subLERsERd _ _ => 2
  | .subsOneERd _ => 2
  | .subsTwoERd _ => 2
  | .subsFourERd _ => 2
  | .subxImm8Rd _ _ => 2
  | .subxRsRd _ _ => 2
  | .daaRd _ => 2
  | .dasRd _ => 2
  | .incBRd _ => 2
  | .incWOneRd _ => 2
  | .incWTwoRd _ => 2
  | .incLOneERd _ => 2
  | .incLTwoERd _ => 2
  | .decBRd _ => 2
  | .decWOneRd _ => 2
  | .decWTwoRd _ => 2
  | .decLOneERd _ => 2
  | .decLTwoERd _ => 2
  | .negBRd _ => 2
  | .negWRd _ => 2
  | .negLERd _ => 2
  | .extuWRd _ => 2
  | .extuLERd _ => 2
  | .extsWRd _ => 2
  | .extsLERd _ => 2
  | .mulxuBRsRd _ _ => 2
  | .mulxuWRsERd _ _ => 2
  | .mulxsBRsRd _ _ => 4
  | .mulxsWRsERd _ _ => 4
  | .divxuBRsRd _ _ => 2
  | .divxuWRsERd _ _ => 2
  | .divxsBRsRd _ _ => 4
  | .divxsWRsERd _ _ => 4
  | .andBImm8Rd _ _ => 2
  | .andBRsRd _ _ => 2
  | .andWImm16Rd _ _ => 4
  | .andWRsRd _ _ => 2
  | .andLImm32ERd _ _ => 6
  | .andLERsERd _ _ => 4
  | .orBImm8Rd _ _ => 2
  | .orBRsRd _ _ => 2
  | .orWImm16Rd _ _ => 4
  | .orWRsRd _ _ => 2
  | .orLImm32ERd _ _ => 6
  | .orLERsERd _ _ => 4
  | .xorBImm8Rd _ _ => 2
  | .xorBRsRd _ _ => 2
  | .xorWImm16Rd _ _ => 4
  | .xorWRsRd _ _ => 2
  | .xorLImm32ERd _ _ => 6
  | .xorLERsERd _ _ => 4
  | .notBRd _ => 2
  | .notWRd _ => 2
  | .notLERd _ => 2
  | .shalBRd _ => 2
  | .shalWRd _ => 2
  | .shalLERd _ => 2
  | .sharBRd _ => 2
  | .sharWRd _ => 2
  | .sharLERd _ => 2
  | .shllBRd _ => 2
  | .shllWRd _ => 2
  | .shllLERd _ => 2
  | .shlrBRd _ => 2
  | .shlrWRd _ => 2
  | .shlrLERd _ => 2
  | .rotlBRd _ => 2
  | .rotlWRd _ => 2
  | .rotlLERd _ => 2
  | .rotrBRd _ => 2
  | .rotrWRd _ => 2
  | .rotrLERd _ => 2
  | .rotxlBRd _ => 2
  | .rotxlWRd _ => 2
  | .rotxlLERd _ => 2
  | .rotxrBRd _ => 2
  | .rotxrWRd _ => 2
  | .rotxrLERd _ => 2
  | .bsetImm3Rd _ _ => 2
  | .bsetImm3AtERd _ _ => 4
  | .bsetImm3Abs8 _ _ => 4
  | .bsetRnRd _ _ => 2
  | .bsetRnAtERd _ _ => 4
  | .bsetRnAbs8 _ _ => 4
  | .bclrImm3Rd _ _ => 2
  | .bclrImm3AtERd _ _ => 4
  | .bclrImm3Abs8 _ _ => 4
  | .bclrRnRd _ _ => 2
  | .bclrRnAtERd _ _ => 4
  | .bclrRnAbs8 _ _ => 4
  | .bnotImm3Rd _ _ => 2
  | .bnotImm3AtERd _ _ => 4
  | .bnotImm3Abs8 _ _ => 4
  | .bnotRnRd _ _ => 2
  | .bnotRnAtERd _ _ => 4
  | .bnotRnAbs8 _ _ => 4
  | .btstImm3Rd _ _ => 2
  | .btstImm3AtERd _ _ => 4
  | .btstImm3Abs8 _ _ => 4
  | .btstRnRd _ _ => 2
  | .btstRnAtERd _ _ => 4
  | .btstRnAbs8 _ _ => 4
  | .bandImm3Rd _ _ => 2
  | .bandImm3AtERd _ _ => 4
  | .bandImm3Abs8 _ _ => 4
  | .biandImm3Rd _ _ => 2
  | .biandImm3AtERd _ _ => 4
  | .biandImm3Abs8 _ _ => 4
  | .borImm3Rd _ _ => 2
  | .borImm3AtERd _ _ => 4
  | .borImm3Abs8 _ _ => 4
  | .biorImm3Rd _ _ => 2
  | .biorImm3AtERd _ _ => 4
  | .biorImm3Abs8 _ _ => 4
  | .bxorImm3Rd _ _ => 2
  | .bxorImm3AtERd _ _ => 4
  | .bxorImm3Abs8 _ _ => 4
  | .bixorImm3Rd _ _ => 2
  | .bixorImm3AtERd _ _ => 4
  | .bixorImm3Abs8 _ _ => 4
  | .bldImm3Rd _ _ => 2
  | .bldImm3AtERd _ _ => 4
  | .bldImm3Abs8 _ _ => 4
  | .bildImm3Rd _ _ => 2
  | .bildImm3AtERd _ _ => 4
  | .bildImm3Abs8 _ _ => 4
  | .bstImm3Rd _ _ => 2
  | .bstImm3AtERd _ _ => 4
  | .bstImm3Abs8 _ _ => 4
  | .bistImm3Rd _ _ => 2
  | .bistImm3AtERd _ _ => 4
  | .bistImm3Abs8 _ _ => 4
  | .braD8 _ => 2
  | .brnD8 _ => 2
  | .bhiD8 _ => 2
  | .blsD8 _ => 2
  | .bccD8 _ => 2
  | .bcsD8 _ => 2
  | .bneD8 _ => 2
  | .beqD8 _ => 2
  | .bvcD8 _ => 2
  | .bvsD8 _ => 2
  | .bplD8 _ => 2
  | .bmiD8 _ => 2
  | .bgeD8 _ => 2
  | .bltD8 _ => 2
  | .bgtD8 _ => 2
  | .bleD8 _ => 2
  | .braD16 _ => 4
  | .brnD16 _ => 4
  | .bhiD16 _ => 4
  | .blsD16 _ => 4
  | .bccD16 _ => 4
  | .bcsD16 _ => 4
  | .bneD16 _ => 4
  | .beqD16 _ => 4
  | .bvcD16 _ => 4
  | .bvsD16 _ => 4
  | .bplD16 _ => 4
  | .bmiD16 _ => 4
  | .bgeD16 _ => 4
  | .bltD16 _ => 4
  | .bgtD16 _ => 4
  | .bleD16 _ => 4
  | .jmpAtERn _ => 2
  | .jmpAbs24 _ => 4
  | .jmpInd8 _ => 2
  | .bsrD8 _ => 2
  | .bsrD16 _ => 4
  | .jsrAtERn _ => 2
  | .jsrAbs24 _ => 4
  | .jsrInd8 _ => 2
  | .rts => 2
  | .ldcImm8Ccr _ => 2
  | .ldcRsCcr _ => 2
  | .ldcAtERsCcr _ => 4
  | .ldcD16ERsCcr _ _ => 6
  | .ldcD24ERsCcr _ _ => 10
  | .ldcPostERsCcr _ => 4
  | .ldcAbs16Ccr _ => 6
  | .ldcAbs24Ccr _ => 8
  | .stcCcrRd _ => 2
  | .stcCcrAtERd _ => 4
  | .stcCcrD16ERd _ _ => 6
  | .stcCcrD24ERd _ _ => 10
  | .stcCcrPreERd _ => 4
  | .stcCcrAbs16 _ => 6
  | .stcCcrAbs24 _ => 8
  | .andcImm8Ccr _ => 2
  | .orcImm8Ccr _ => 2
  | .xorcImm8Ccr _ => 2
  | .nop => 2
  | .rte => 2
  | .trapaImm2 _ => 2
  | .sleep => 2
  | .eepmovB => 4
  | .eepmovW => 4

/-- Four digits make one instruction word. -/
def packWords : List Nib → List Word
  | a :: b :: c :: d :: rest => wordOf a b c d :: packWords rest
  | _ => []

/-- The instruction words of an instruction, first word first. -/
def encode (i : Instr) : List Word := packWords (encodeNibs i)

/-- The length in bytes of the code that begins with these digits (R125), as far as they tell: one word of the prefixes
0100 and 0140 tells that there is a second, and that one tells the length. Where R125 calls the code undefined, the
length of the words that show it: no further one belongs to it. -/
def codeLength : List Nib → Nat
  | .n0 :: .n1 :: .n0 :: .n0 :: rest | .n0 :: .n1 :: .n4 :: .n0 :: rest =>
    match rest with
    | .n6 :: .nF :: _ => 6
    | .n6 :: .nB :: c :: _ => if c.bits.getLsbD 1 then 8 else 6
    | .n7 :: .n8 :: _ => 10
    | _ => 4
  | .n0 :: .n1 :: .nC :: .n0 :: _ | .n0 :: .n1 :: .nD :: .n0 :: _ | .n0 :: .n1 :: .nF :: .n0 :: _ => 4
  | .n5 :: .n8 :: _ | .n5 :: .nA :: _ | .n5 :: .nC :: _ | .n5 :: .nE :: _ => 4
  | .n6 :: .nA :: c :: _ | .n6 :: .nB :: c :: _ => if c.bits.getLsbD 1 then 6 else 4
  | .n6 :: .nE :: _ | .n6 :: .nF :: _ | .n7 :: .n9 :: _ | .n7 :: .nB :: _ | .n7 :: .nC :: _ | .n7 :: .nD :: _
  | .n7 :: .nE :: _ | .n7 :: .nF :: _ => 4
  | .n7 :: .n8 :: _ => 8
  | .n7 :: .nA :: _ => 6
  | _ => 2

/-- The instruction that begins at the first of the given words (R125). Words left over are ignored: an
instruction's length is `Instr.length`. -/
def decode (ws : List Word) : Option Instr := decodeNibs (ws.flatMap nibs16)

/-! The host's numbering of an opcode-table word. The table reads a row's words as one number whose first byte is
the most significant; the host's text numbers the first word's bits lowest. For one-word rows the two agree. The
table's reading is tried first. Assumption 16. -/

/-- The number of 16-bit words in `nbits` bits. -/
def tableWords (nbits : Nat) : Nat := (nbits + 15) / 16

/-- The longest instruction is five words (R101). -/
def padWords (ws : List Word) : List Word := (ws ++ List.replicate 5 0).take 5

/-- The words of the number `w` of `nbits` bits, first byte most significant. -/
def wordsFirstHigh (nbits w : Nat) : List Word :=
  let n := tableWords nbits
  padWords ((List.range n).map fun k => BitVec.ofNat 16 ((w <<< (16 * n - nbits)) >>> (16 * (n - 1 - k))))

/-- The words of the number `w` of `nbits` bits, the first word least significant. -/
def wordsFirstLow (nbits w : Nat) : List Word :=
  padWords ((List.range (tableWords nbits)).map fun k => BitVec.ofNat 16 (w >>> (16 * k)))

/-- Whether the words begin with an instruction of exactly `nbits` bits. -/
def decodesAs (nbits : Nat) (ws : List Word) : Bool :=
  match decode ws with
  | some i => i.length * 8 == nbits
  | none => false

/-- The five words laid out for the table word `w` of `nbits` bits. -/
def layoutTableWord (nbits w : Nat) : List Word :=
  if decodesAs nbits (wordsFirstHigh nbits w) then wordsFirstHigh nbits w
  else if decodesAs nbits (wordsFirstLow nbits w) then wordsFirstLow nbits w
  else wordsFirstHigh nbits w

/-- The instruction the decoder reads from the opcode-table word `w` of `nbits` bits. -/
def decodeTableWord (nbits w : Nat) : Option Instr := decode (layoutTableWord nbits w)

end

end Sys2Proof
end

