-- ==== Sys2Proof/Machine/State.lean ====
section
/-! DEFINITION. The state of the machine (10_state R20 to R59) as plain data, with the environment's inputs
(00_scope R9) and the parameters of the run beside it; the reasons a step can stop; the state after reset. -/

namespace Sys2Proof.Machine

/-- The eight 32-bit general registers (R20). Their 16-bit and 8-bit views are slices of these (R21), read and
written in Machine/Operands.lean. -/
structure RegFile where
  er0 : Long
  er1 : Long
  er2 : Long
  er3 : Long
  er4 : Long
  er5 : Long
  er6 : Long
  er7 : Long
  deriving DecidableEq, Repr

/-- The processing state `proc_state` (R55, 60_exceptions R550). Exception handling is a transient and one atomic
step (R500). -/
inductive ProcState where
  | run
  | sleep
  | softwareStandby
  | hardwareStandby
  | reset
  | busReleased
  deriving DecidableEq, Repr

/-- The operating mode `MODE`, fixed by pins (00_scope R9). -/
inductive Mode where
  | normal
  | advanced
  deriving DecidableEq, Repr

/-- What the memory map says of an access that the sources leave to it (20_memory R80): it completes (a write is
ignored, a read gives an arbitrary byte), or the model faults, the spec's default. -/
inductive AccessPolicy where
  | complete
  | fault
  deriving DecidableEq, Repr

/-- What lies at an address (R80). The read function of a device is `Config.deviceByte`, its write function the record
`State.devLog` that the former answers from. -/
inductive RegionKind where
  | ram
  | rom (onWrite : AccessPolicy)
  | device
  | unmapped (onAccess : AccessPolicy)
  deriving DecidableEq, Repr

/-- A part of the address space: `size` bytes from the physical address `base`. -/
structure Region where
  base : Nat
  size : Nat
  kind : RegionKind
  deriving DecidableEq, Repr

/-- One row of the product's `UI_MASK(I, UI, src)` (R511): whether the source is masked for these two bits. -/
structure UiMaskRow where
  src : Nat
  i : Bool
  ui : Bool
  masked : Bool
  deriving DecidableEq, Repr

/-- The parameters of a run (00_scope R9). -/
structure Params where
  /-- `MODE`. -/
  mode : Mode
  /-- `ADDR_MASK` in advanced mode (20_memory R66): how many of the upper address bits the product ignores. 0 is the
  spec's H'FFFFFF; 4 is a 1-Mbyte space. -/
  ignoredBits : Fin 9
  /-- `E_CLOCK` is present. -/
  eClock : Bool
  /-- `MemoryMap`: the first region that holds an address decides; an address in none is RAM, the spec's default. -/
  map : List Region
  /-- `RESET_VECTOR_ADDR`. -/
  resetVector : Addr
  /-- `UI_MASK`: the first row for the source and the two bits decides; without one the default `I = 1` does. -/
  uiMask : List UiMaskRow
  deriving DecidableEq, Repr

/-- A maskable interrupt request presented by the environment: `src` and `vector_of(src)` (R510). -/
structure Irq where
  src : Nat
  vector : Nat
  deriving DecidableEq, Repr

/-- An NMI that arrives while an instruction executes: after that many completed byte transfers of an EEPMOV.W
(46_block_transfer R493); after any other instruction it is pending. -/
structure NmiArrival where
  afterBytes : Nat
  vector : Nat
  deriving DecidableEq, Repr

/-- A pin that goes Low between two bus accesses (60_exceptions R553, R555). -/
inductive Cut where
  | res
  | stby
  deriving DecidableEq, Repr

/-- What happens before one bus access of the CPU (20_memory R73, R84): the accesses of another master that has the bus
there, and whether RES or STBY then goes Low, so that the access is not made. -/
structure BusSlot where
  accesses : List Config.BusAccess
  cut : Option Cut
  deriving DecidableEq, Repr

/-- One sample of the environment's inputs (R9): the pins, the requests, the control bits outside the CPU, and what
other bus masters do (20_memory R84). -/
structure Env where
  /-- RES is Low. -/
  resLow : Bool
  /-- STBY is Low. -/
  stbyLow : Bool
  /-- Another master requests the bus. -/
  busRequest : Bool
  /-- `nmi_pending`, with `vector_of(NMI)`. -/
  nmi : Option Nat
  /-- An NMI arriving during the instruction of this step. -/
  nmiDuring : Option NmiArrival
  /-- `irq_pending`, `src` and `vector_of(src)`. -/
  irq : Option Irq
  /-- `ssby`. -/
  ssby : Bool
  /-- `ui_is_mask`. -/
  uiIsMask : Bool
  /-- What another master does while the bus is released to it at the beginning of this step. -/
  busAccesses : List Config.BusAccess
  /-- What happens before each bus access of this step, in their order; before the accesses past the end, nothing. -/
  slots : List BusSlot
  deriving DecidableEq, Repr

/-- The machine. `inputs`, `draws` and `devLog` are the model's own fields (INVENTORY.md, State). -/
structure State where
  /-- ER0 to ER7 (R20). -/
  regs : RegFile
  /-- PC, 24 bits (R30). -/
  pc : Addr
  /-- CCR, 8 bits: I UI H U N Z V C from bit 7 down (R38). -/
  ccr : Byte
  /-- The prefetched word, first word of the next instruction (R53, 70_reset R572). -/
  pf : Word
  /-- `int_inhibit`: the next detection point is skipped (R54). -/
  intInhibit : Bool
  /-- `proc_state` (R55). -/
  proc : ProcState
  /-- Memory (R52, R64): the bytes that are not 0, addresses strictly rising. -/
  mem : List Host.Cell
  /-- The environment's inputs now (R9). -/
  env : Env
  /-- The environment's inputs of the steps to come, one a step; when none is left the last levels stay. -/
  inputs : List Env
  /-- The parameters of the run (R9). -/
  params : Params
  /-- The index of the step, which the draws of Config depend on. -/
  draws : Nat
  /-- The accesses to device addresses (R75, R80), reads and writes, oldest first: what the devices saw. -/
  devLog : List Config.BusAccess
  deriving DecidableEq, Repr

/-- Why the model stops. None of these is an exception of the CPU (60_exceptions R501 lists those). -/
inductive Fault where
  /-- Raised by Step: the words at PC are the code of no row of R127 (30_encoding R131, D13). Safe: the spec gives no
  behaviour, and the model claims none. -/
  | undefinedOpcode
  /-- Raised by MOVFPE where `E_CLOCK` is absent (40_data_transfer R190, D18). Safe. -/
  | movfpeWithoutEClock
  /-- Raised by MOVTPE where `E_CLOCK` is absent (R191, D18). Safe. -/
  | movtpeWithoutEClock
  /-- Raised by a bus access to an unmapped address whose map says `fault`, the default of R80 (D8). Safe. -/
  | unmappedAccess (address : Nat)
  /-- Raised by a write to a ROM address whose map says `fault`, the default of R80 (D8). Safe. -/
  | romWrite (address : Nat)
  deriving DecidableEq, Repr

/-- Why the model gives no meaning. -/
inductive Refusal where
  /-- Raised by Dispatch for an instruction that has no meaning yet. Safe. -/
  | notModelled (mnemonic : String)
  deriving DecidableEq, Repr

/-- No pin asserted, nothing requested, SSBY = 0, UI a user bit, no other master. -/
def Env.quiet : Env :=
  { resLow := false, stbyLow := false, busRequest := false, nmi := none, nmiDuring := none, irq := none,
    ssby := false, uiIsMask := false, busAccesses := [], slots := [] }

/-- Advanced mode with all 24 address bits, an E clock, RAM everywhere (R80), the reset vector at 0 (D9), `UI_MASK` the
default (D26). -/
def Params.default : Params :=
  { mode := .advanced, ignoredBits := 0, eClock := true, map := [], resetVector := 0, uiMask := [] }

/-- The machine right after reset exception handling (10_state R59, 70_reset R563): PC from the reset vector of a
memory that lists nothing, I = 1, the inhibit set, the word at PC prefetched. The general registers and the other
CCR bits, which reset does not initialise, are 0 here: DESIGN CHOICE, assumptions 2 and 3. -/
def State.reset : State :=
  { regs := ⟨0, 0, 0, 0, 0, 0, 0, 0⟩, pc := 0, ccr := 0x80, pf := 0, intInhibit := true, proc := .run, mem := [],
    env := .quiet, inputs := [], params := .default, draws := 0, devLog := [] }

end Sys2Proof.Machine
end

