-- ==== Sys2Proof/Machine/Memory.lean ====
section
/-! DEFINITION. Memory as a list of cells in one canonical form, the memory map, and the bus as one byte at a time
(20_memory R60 to R68, R80). -/

namespace Sys2Proof.Machine

/-! ### Cells -/

/-- What a byte that memory does not list reads as: 0 (R92 leaves it to the initial condition). Assumption 5. -/
def unlistedByte : Byte := 0

/-- The byte at an address: that of the first cell with the address. -/
def memLookup : List Host.Cell → Nat → Byte
  | [], _ => unlistedByte
  | (a, b) :: rest, x => if a = x then b else memLookup rest x

/-- Memory without the cells of an address. -/
def memErase : List Host.Cell → Nat → List Host.Cell
  | [], _ => []
  | (a, b) :: rest, x => if a = x then memErase rest x else (a, b) :: memErase rest x

/-- A cell put in front of the first cell with a higher address. -/
def memInsert : List Host.Cell → Nat → Byte → List Host.Cell
  | [], x, v => [(x, v)]
  | (a, b) :: rest, x, v => if x < a then (x, v) :: (a, b) :: rest else (a, b) :: memInsert rest x v

/-- Memory with the byte `v` at `x`; a byte equal to what an unlisted address reads as is not listed. -/
def memWrite (m : List Host.Cell) (x : Nat) (v : Byte) : List Host.Cell :=
  if v = unlistedByte then memErase m x else memInsert (memErase m x) x v

/-- The canonical form: addresses strictly rising, every one inside the 2^24 bytes of R60, no byte listed that an
unlisted address reads as. -/
def memWf : List Host.Cell → Bool
  | [] => true
  | (a, b) :: rest =>
    rest.all (fun c => decide (a < c.1)) && decide (a < 2 ^ 24) && decide (b ≠ unlistedByte) && memWf rest

/-! ### The map -/

/-- The region holds the physical address. -/
def Region.holds (r : Region) (p : Nat) : Bool := decide (r.base ≤ p) && decide (p < r.base + r.size)

/-- What lies at a physical address (R80): the first region that holds it, else RAM. -/
def kindAt (map : List Region) (p : Nat) : RegionKind :=
  match map.find? (fun r => r.holds p) with
  | some r => r.kind
  | none => .ram

/-- The fault a read of a physical address raises, if the map says so (R80). -/
def readFault (map : List Region) (p : Nat) : Option Fault :=
  match kindAt map p with
  | .unmapped .fault => some (.unmappedAccess p)
  | _ => none

/-- The fault a write to a physical address raises, if the map says so (R80). -/
def writeFault (map : List Region) (p : Nat) : Option Fault :=
  match kindAt map p with
  | .rom .fault => some (.romWrite p)
  | .unmapped .fault => some (.unmappedAccess p)
  | _ => none

/-- The memory after a byte written at a physical address (R64, R80): kept by RAM, by nothing else. -/
def ramWrite (map : List Region) (m : List Host.Cell) (p : Nat) (v : Byte) : List Host.Cell :=
  match kindAt map p with
  | .ram => memWrite m p v
  | .rom _ | .device | .unmapped _ => m

/-- The access covers a byte of a device. -/
def concernsDevice (map : List Region) : Config.BusAccess → Bool
  | .readByte p | .writeByte p _ => decide (kindAt map p = .device)
  | .readWord p | .writeWord p _ => decide (kindAt map p = .device) || decide (kindAt map (p + 1) = .device)

/-! ### The bus -/

/-- `phys` (R66): the low 16 bits of the address in normal mode; in advanced mode all 24 but those the product
ignores. -/
def physOf (params : Params) (a : Addr) : Nat :=
  match params.mode with
  | .normal => a.toNat % 2 ^ 16
  | .advanced => a.toNat % 2 ^ (24 - params.ignoredBits.val)

/-- `phys` in this state. -/
def State.phys (s : State) (a : Addr) : Nat := physOf s.params a

/-- An address with bit 0 cleared, as every word and longword access treats it (R68). -/
def evenAddr (a : Addr) : Addr := a &&& 0xFFFFFE#24

/-- The byte a read of a physical address gives (R64, R80). -/
def State.busByte (s : State) (why : Config.ReadPurpose) (p : Nat) : Byte :=
  match kindAt s.params.map p with
  | .ram | .rom _ => memLookup s.mem p
  | .device => Config.deviceByte s.draws s.devLog p
  | .unmapped _ => Config.openBus s.draws why p

/-- The devices have seen an access, if it is to one of them (R75, R80). -/
def State.tell (s : State) (e : Config.BusAccess) : State :=
  { s with devLog := s.devLog ++ if concernsDevice s.params.map e then [e] else [] }

/-- `MemRead(a, 1)` (R64), for a purpose. -/
def State.read8 (s : State) (why : Config.ReadPurpose) (a : Addr) : Byte := s.busByte why (s.phys a)

/-- The machine after that read (R75). -/
def State.sawRead8 (s : State) (a : Addr) : State := s.tell (.readByte (s.phys a))

/-- `MemRead(a, 2)` (R64): big-endian, bit 0 of the address dropped. -/
def State.read16 (s : State) (why : Config.ReadPurpose) (a : Addr) : Word :=
  s.read8 why (evenAddr a) ++ s.read8 why (evenAddr a + 1)

/-- The machine after that read: one access, a word's (R71). -/
def State.sawRead16 (s : State) (a : Addr) : State := s.tell (.readWord (s.phys (evenAddr a)))

/-- `MemRead(a, 4)` (R64): the word at the even address, then, as a second access, the word after it (R71). -/
def State.read32 (s : State) (a : Addr) : Long :=
  s.read16 .data (evenAddr a) ++ (s.sawRead16 (evenAddr a)).read16 .data (evenAddr a + 2)

/-- The machine after those two reads. -/
def State.sawRead32 (s : State) (a : Addr) : State := (s.sawRead16 (evenAddr a)).sawRead16 (evenAddr a + 2)

/-- One byte in memory (R64, R80). -/
def State.writeByte (s : State) (p : Nat) (v : Byte) : State :=
  { s with mem := ramWrite s.params.map s.mem p v }

/-- `MemWrite(a, 1, v)` (R64). -/
def State.write8 (s : State) (a : Addr) (v : Byte) : State :=
  (s.writeByte (s.phys a) v).tell (.writeByte (s.phys a) v)

/-- `MemWrite(a, 2, v)` (R64): in memory the high byte at the even address, the low byte after it. Devices see one
access with the whole word (R71), so in which order a device is given its two bytes, which no source states
(91_not_in_source N26), is left open. Assumption 10. -/
def State.write16 (s : State) (a : Addr) (v : Word) : State :=
  ((s.writeByte (s.phys (evenAddr a)) (v.extractLsb' 8 8)).writeByte (s.phys (evenAddr a + 1))
    (v.extractLsb' 0 8)).tell (.writeWord (s.phys (evenAddr a)) v)

/-- One access of another master (R84): what a write changes in memory, and what the devices see. -/
def State.otherMaster (s : State) : Config.BusAccess → State
  | .readByte p => s.tell (.readByte (p % 2 ^ 24))
  | .readWord p => s.tell (.readWord (p % 2 ^ 24 / 2 * 2))
  | .writeByte p v => (s.writeByte (p % 2 ^ 24) v).tell (.writeByte (p % 2 ^ 24) v)
  | .writeWord p v =>
    let q := p % 2 ^ 24 / 2 * 2
    ((s.writeByte q (v.extractLsb' 8 8)).writeByte (q + 1) (v.extractLsb' 0 8)).tell (.writeWord q v)

/-- The accesses of another master while it has the bus (R84): RAM and device bytes change; the registers, PC, CCR and
the prefetched word stay. -/
def State.otherMasters (s : State) (accesses : List Config.BusAccess) : State := accesses.foldl State.otherMaster s

end Sys2Proof.Machine
end

