-- ==== Sys2Proof/Machine/Operands.lean ====
section
/-! DEFINITION. The operands: registers and their views (10_state R20 to R27, 00_scope R16), effective addresses
(30_encoding R111 to R119). -/

namespace Sys2Proof.Machine

/-! ### Registers -/

/-- ER[n]. -/
def RegFile.get (f : RegFile) : ERn → Long
  | .er0 => f.er0 | .er1 => f.er1 | .er2 => f.er2 | .er3 => f.er3
  | .er4 => f.er4 | .er5 => f.er5 | .er6 => f.er6 | .er7 => f.er7

/-- ER[n] ← v. -/
def RegFile.set (f : RegFile) (n : ERn) (v : Long) : RegFile :=
  match n with
  | .er0 => { f with er0 := v } | .er1 => { f with er1 := v } | .er2 => { f with er2 := v }
  | .er3 => { f with er3 := v } | .er4 => { f with er4 := v } | .er5 => { f with er5 := v }
  | .er6 => { f with er6 := v } | .er7 => { f with er7 := v }

/-- Bits 15:8 or 7:0 of a register (R21). -/
def byteView (half : ByteHalf) (x : Long) : Byte :=
  match half with
  | .h => x.extractLsb' 8 8
  | .l => x.extractLsb' 0 8

/-- A register with one byte of its low word replaced, the other bits unchanged (R21). -/
def withByteView (half : ByteHalf) (x : Long) (v : Byte) : Long :=
  match half with
  | .h => x.extractLsb' 16 16 ++ v ++ x.extractLsb' 0 8
  | .l => x.extractLsb' 8 24 ++ v

/-- Bits 15:0 or 31:16 of a register (R21). -/
def wordView (half : WordHalf) (x : Long) : Word :=
  match half with
  | .r => x.extractLsb' 0 16
  | .e => x.extractLsb' 16 16

/-- A register with one word replaced, the other unchanged (R21). -/
def withWordView (half : WordHalf) (x : Long) (v : Word) : Long :=
  match half with
  | .r => x.extractLsb' 16 16 ++ v
  | .e => v ++ x.extractLsb' 0 16

/-- ER[n] (R16). -/
def State.er (s : State) (n : ERn) : Long := s.regs.get n

/-- ER[n] ← v (R16). -/
def State.setEr (s : State) (n : ERn) (v : Long) : State := { s with regs := s.regs.set n v }

/-- Reg8(f) (R104). -/
def State.reg8 (s : State) (r : R8) : Byte := byteView r.half (s.er r.n)

/-- Reg8(f) ← v: the other bits of the 32-bit register stay (R21). -/
def State.setReg8 (s : State) (r : R8) (v : Byte) : State := s.setEr r.n (withByteView r.half (s.er r.n) v)

/-- Reg16(f) (R104). -/
def State.reg16 (s : State) (r : R16) : Word := wordView r.half (s.er r.n)

/-- Reg16(f) ← v: the other half of the 32-bit register stays (R21). -/
def State.setReg16 (s : State) (r : R16) (v : Word) : State := s.setEr r.n (withWordView r.half (s.er r.n) v)

/-! ### Effective addresses: 24 bits, masked by the mode only at the access (R65, R66, R120) -/

/-- The low 24 bits of a register or of a 32-bit sum (R65). -/
def low24 (x : Long) : Addr := x.extractLsb' 0 24

/-- @ERn (R112). -/
def State.eaAt (s : State) (n : ERn) : Addr := low24 (s.er n)

/-- @(d:16,ERn) (R114): the displacement is sign-extended to 32 bits. -/
def State.eaD16 (s : State) (d : Word) (n : ERn) : Addr := low24 (s.er n + d.signExtend 32)

/-- @(d:24,ERn) (R114). -/
def State.eaD24 (s : State) (d : Addr) (n : ERn) : Addr := low24 (s.er n + d.zeroExtend 32)

/-- @aa:8 (R116). -/
def eaAbs8 (a : Byte) : Addr := 0xFFFF#16 ++ a

/-- @aa:16 (R116): sign-extended. -/
def eaAbs16 (a : Word) : Addr := a.signExtend 24

/-- The address of the pointer of @@aa:8 (R119). -/
def eaPointer (a : Byte) : Addr := a.zeroExtend 24

/-- A PC-relative displacement of 8 bits (R118). -/
def disp8To24 (d : Byte) : Addr := d.signExtend 24

/-- A PC-relative displacement of 16 bits (R118). -/
def disp16To24 (d : Word) : Addr := d.signExtend 24

end Sys2Proof.Machine
end

