-- ==== Sys2Proof/Machine/Flags.lean ====
section
/-! DEFINITION. CCR and its flags (10_state R38 to R47), and every flag computation of the spec: `add_flags` and
`sub_flags` (00_scope R18), `mov_flags` (40_data_transfer R141), and those of the other families. -/

namespace Sys2Proof.Machine

/-- The bits of CCR (R38). -/
inductive Flag where
  | i | ui | h | u | n | z | v | c
  deriving DecidableEq, Repr

/-- The place of a bit in CCR (R38). -/
def Flag.index : Flag → Nat
  | .i => 7 | .ui => 6 | .h => 5 | .u => 4 | .n => 3 | .z => 2 | .v => 1 | .c => 0

/-- A CCR with this bit alone set. -/
def Flag.mask : Flag → Byte
  | .i => 0x80 | .ui => 0x40 | .h => 0x20 | .u => 0x10 | .n => 0x08 | .z => 0x04 | .v => 0x02 | .c => 0x01

/-- A bit of a CCR value. -/
def ccrGet (ccr : Byte) (f : Flag) : Bool := ccr.getLsbD f.index

/-- A CCR value with one bit replaced. -/
def ccrPut (ccr : Byte) (f : Flag) (b : Bool) : Byte :=
  if b then ccr ||| f.mask else ccr &&& ~~~f.mask

/-- A flag of the machine. -/
def State.flag (s : State) (f : Flag) : Bool := ccrGet s.ccr f

/-- The machine with another CCR. -/
def State.withCcr (s : State) (ccr : Byte) : State := { s with ccr := ccr }

/-- N and Z of a value; the other bits stay. -/
def ccrNZ {w : Nat} (ccr : Byte) (v : BitVec w) : Byte :=
  ccrPut (ccrPut ccr .n v.msb) .z (decide (v = 0))

/-- `mov_flags` (R141), and the flags of AND, OR, XOR, NOT (42_logic_shift R280): N, Z from the value, V ← 0. -/
def movFlags {w : Nat} (ccr : Byte) (v : BitVec w) : Byte := ccrPut (ccrNZ ccr v) .v false

/-- The carry or borrow into an addition or subtraction, as a number. -/
def cinNat (b : Bool) : Nat := if b then 1 else 0

/-- `add_flags`: the sum D + S + cin (R18). -/
def addResult {w : Nat} (d s : BitVec w) (cin : Bool) : BitVec w := d + s + BitVec.ofNat w (cinNat cin)

/-- `add_flags`: the carry out of the top bit (R18). -/
def addCarry {w : Nat} (d s : BitVec w) (cin : Bool) : Bool :=
  decide (2 ^ w ≤ d.toNat + s.toNat + cinNat cin)

/-- `add_flags`: the carry out of bit m - 4, that is out of the low w - 4 bits (R18, R41). -/
def addHalfCarry {w : Nat} (d s : BitVec w) (cin : Bool) : Bool :=
  decide (2 ^ (w - 4) ≤ d.toNat % 2 ^ (w - 4) + s.toNat % 2 ^ (w - 4) + cinNat cin)

/-- `add_flags`: signed overflow (R18). -/
def addOverflow {w : Nat} (d s : BitVec w) (cin : Bool) : Bool :=
  (d.msb == s.msb) && ((addResult d s cin).msb != d.msb)

/-- `sub_flags`: the difference D - S - bin (R18). -/
def subResult {w : Nat} (d s : BitVec w) (bin : Bool) : BitVec w := d - s - BitVec.ofNat w (cinNat bin)

/-- `sub_flags`: the borrow (R18). -/
def subBorrow {w : Nat} (d s : BitVec w) (bin : Bool) : Bool := decide (d.toNat < s.toNat + cinNat bin)

/-- `sub_flags`: the borrow into the low w - 4 bits, out of bit m - 4 (R18, R41). -/
def subHalfBorrow {w : Nat} (d s : BitVec w) (bin : Bool) : Bool :=
  decide (d.toNat % 2 ^ (w - 4) < s.toNat % 2 ^ (w - 4) + cinNat bin)

/-- `sub_flags`: signed overflow (R18). -/
def subOverflow {w : Nat} (d s : BitVec w) (bin : Bool) : Bool :=
  (d.msb != s.msb) && ((subResult d s bin).msb != d.msb)

/-- CCR after ADD, and after ADDX but for Z (R18). -/
def addFlags {w : Nat} (ccr : Byte) (d s : BitVec w) (cin : Bool) : Byte :=
  ccrPut (ccrPut (ccrPut (ccrNZ ccr (addResult d s cin)) .h (addHalfCarry d s cin)) .v (addOverflow d s cin))
    .c (addCarry d s cin)

/-- CCR after SUB, CMP and NEG, and after SUBX but for Z (R18). -/
def subFlags {w : Nat} (ccr : Byte) (d s : BitVec w) (bin : Bool) : Byte :=
  ccrPut (ccrPut (ccrPut (ccrNZ ccr (subResult d s bin)) .h (subHalfBorrow d s bin)) .v (subOverflow d s bin))
    .c (subBorrow d s bin)

/-- ADDX and SUBX can only clear Z (R44, 41_arithmetic R210, R226): Z stays when the result is 0, else becomes 0. -/
def keepZ {w : Nat} (before after : Byte) (r : BitVec w) : Byte :=
  ccrPut after .z (ccrGet before .z && decide (r = 0))

/-- CCR after INC (41_arithmetic R230 to R234): N, Z, V; C and H stay. -/
def incFlags {w : Nat} (ccr : Byte) (d k : BitVec w) : Byte :=
  ccrPut (ccrNZ ccr (addResult d k false)) .v (addOverflow d k false)

/-- CCR after DEC (R235 to R239): N, Z, V; C and H stay. -/
def decFlags {w : Nat} (ccr : Byte) (d k : BitVec w) : Byte :=
  ccrPut (ccrNZ ccr (subResult d k false)) .v (subOverflow d k false)

/-- CCR after DIVXU and DIVXS (R251 to R254): N as given, Z when the divisor is 0, the rest unchanged. -/
def divFlags {w : Nat} (ccr : Byte) (n : Bool) (divisor : BitVec w) : Byte :=
  ccrPut (ccrPut ccr .n n) .z (decide (divisor = 0))

/-- CCR after a shift or rotate (42_logic_shift R302): N, Z from the result, V and C as given, H unchanged. -/
def shiftFlags {w : Nat} (ccr : Byte) (r : BitVec w) (v c : Bool) : Byte :=
  ccrPut (ccrPut (ccrNZ ccr r) .v v) .c c

end Sys2Proof.Machine
end

