-- ==== Sys2Proof/Machine/Ops.lean ====
section
/-! DEFINITION. The shared operations: draws, bus accesses with what may come between them, the program counter and the prefetch, the
stack, taking an exception and returning from one (00_scope R17, 44_branch R400 and R413, 60_exceptions R510 to R530,
70_reset R562 and R572). An operation takes what to do next as its last argument. -/

namespace Sys2Proof.Machine

/-- What a step gives. -/
abbrev Result := Host.Outcome State Fault Refusal

/-! ### Draws -/

/-- `draw_32()` (R17): arbitrary; the tag tells the draws of one step apart. -/
def State.free32 (s : State) (tag : Nat) : Long := Config.freeBits s.draws tag

/-- `draw_16()`. -/
def State.free16 (s : State) (tag : Nat) : Word := (s.free32 tag).extractLsb' 0 16

/-- `draw_8()`. -/
def State.free8 (s : State) (tag : Nat) : Byte := (s.free32 tag).extractLsb' 0 8

/-- `draw_1()`. -/
def State.free1 (s : State) (tag : Nat) : Bool := (s.free32 tag).getLsbD 0

/-- One of two ways, as a draw decides: `a` when `b`, else `c`. (Where both give a next state so does this, whichever
the draw is.) -/
def drawn (b : Bool) (a c : Result) : Result :=
  match a, c with
  | .next s, .next t => .next (if b then s else t)
  | r, q => if b then r else q

/-! ### Between two bus accesses -/

/-- The reset state is entered (60_exceptions R555, 70_reset R561): I is set; memory and the registers stay as they are
then. -/
def enterReset (s : State) : State := { s with ccr := ccrPut s.ccr .i true, proc := .reset }

/-- What stands before a bus access (20_memory R73, R84, 60_exceptions R515, R553, R555): another master may have the
bus there; RES or STBY may go Low there, and then the instruction or exception sequence is abandoned where it stands.
`k` makes the access and goes on. -/
def beforeAccess (s : State) (k : State → Result) : Result :=
  match s.env.slots with
  | [] => k s
  | slot :: rest =>
    let s' := { s with env := { s.env with slots := rest } }.otherMasters slot.accesses
    match slot.cut with
    | none => k s'
    | some .res => .next (enterReset { s' with env := { s'.env with resLow := true } })
    | some .stby => .next { s' with proc := .hardwareStandby, env := { s'.env with stbyLow := true } }

/-! ### Bus accesses -/

/-- Goes on unless the map makes a read of this byte fault (R80). -/
def checkRead (s : State) (a : Addr) (k : Result) : Result :=
  match readFault s.params.map (s.phys a) with
  | some f => .fault f
  | none => k

/-- Goes on unless the map makes a read of this word fault. -/
def checkRead16 (s : State) (a : Addr) (k : Result) : Result :=
  checkRead s (evenAddr a) (checkRead s (evenAddr a + 1) k)

/-- Goes on unless the map makes a write of this byte fault (R80). -/
def checkWrite (s : State) (a : Addr) (k : Result) : Result :=
  match writeFault s.params.map (s.phys a) with
  | some f => .fault f
  | none => k

/-- A data byte is read (R71). -/
def load8 (s : State) (a : Addr) (k : Byte → State → Result) : Result :=
  beforeAccess s fun s => checkRead s a (k (s.read8 .data a) (s.sawRead8 a))

/-- A word is read, for a purpose (R71). -/
def readWord (why : Config.ReadPurpose) (s : State) (a : Addr) (k : Word → State → Result) : Result :=
  beforeAccess s fun s => checkRead16 s a (k (s.read16 why a) (s.sawRead16 a))

/-- A data word is read. -/
def load16 (s : State) (a : Addr) (k : Word → State → Result) : Result := readWord .data s a k

/-- A data longword is read as two words, the word at EA first (R63, R71, R87). -/
def load32 (s : State) (a : Addr) (k : Long → State → Result) : Result :=
  load16 s (evenAddr a) fun h s => load16 s (evenAddr a + 2) fun l s => k (h ++ l) s

/-- A data byte is written (R71). -/
def store8 (s : State) (a : Addr) (v : Byte) (k : State → Result) : Result :=
  beforeAccess s fun s => checkWrite s a (k (s.write8 a v))

/-- A data word is written (R71). -/
def store16 (s : State) (a : Addr) (v : Word) (k : State → Result) : Result :=
  beforeAccess s fun s => checkWrite s (evenAddr a) (checkWrite s (evenAddr a + 1) (k (s.write16 a v)))

/-- A data longword is written as two words, the word at EA first (R64, R87). -/
def store32 (s : State) (a : Addr) (v : Long) (k : State → Result) : Result :=
  store16 s (evenAddr a) (v.extractLsb' 16 16) fun s => store16 s (evenAddr a + 2) (v.extractLsb' 0 16) k

/-- A longword written as two words, the word after EA first. -/
def store32LowFirst (s : State) (a : Addr) (v : Long) (k : State → Result) : Result :=
  store16 s (evenAddr a + 2) (v.extractLsb' 0 16) fun s => store16 s (evenAddr a) (v.extractLsb' 16 16) k

/-- A longword written by @-ERd: no source fixes which of its words goes first, a draw decides (R87, D12). -/
def store32AnyOrder (s : State) (a : Addr) (v : Long) (k : State → Result) : Result :=
  drawn (s.free1 0) (store32 s a v k) (store32LowFirst s a v k)

/-! ### The program counter -/

/-- A PC value truncated to the mode's width (10_state R34, R35). -/
def wrapPc (mode : Mode) (a : Addr) : Addr :=
  match mode with
  | .normal => a &&& 0x00FFFF#24
  | .advanced => a

/-- `load_pc` (44_branch R400): bit 0 cleared, bits 23:16 cleared in normal mode. -/
def State.loadPc (s : State) (a : Addr) : Addr := evenAddr (wrapPc s.params.mode a)

/-- `next_pc` (00_scope R17): the address after an instruction of `len` bytes. -/
def State.nextPc (s : State) (len : Addr) : Addr := wrapPc s.params.mode (s.pc + len)

/-- PC ← a, and the word there is fetched for the next instruction (R572). -/
def fetchAt (s : State) (a : Addr) (k : State → Result) : Result :=
  readWord .prefetch s a fun w s => k { s with pc := a, pf := w }

/-- `R:W NEXT` of an instruction of `len` bytes that does not branch: PC ← next_pc with its prefetch; a data access
other than the read of a bit operation comes after it (20_memory R86, R572). -/
def advance (len : Addr) (s : State) (k : State → Result) : Result := fetchAt s (s.nextPc len) k

/-- The end of an instruction that does not branch: PC ← next_pc (R33). -/
def goNext (len : Addr) (s : State) : Result := advance len s .next

/-- The end of an instruction that loads PC (R400). -/
def goTo (a : Addr) (s : State) : Result := fetchAt s (s.loadPc a) .next

/-- `R:W NEXT` of an instruction of one word that branches away, and the read that opens an interrupt's entry (R75,
R570, 60_exceptions R524): the word two bytes after PC is fetched and discarded. -/
def discardNext (s : State) (k : State → Result) : Result := readWord .prefetch s (s.nextPc 2) fun _ s => k s

/-! ### The stack and the pointers -/

/-- A 16-bit branch address (normal mode) or the low 24 bits of a longword (advanced mode), as a vector or a @@aa:8
pointer holds it (30_encoding R119, 60_exceptions R523). -/
def loadPointer (s : State) (a : Addr) (k : Addr → State → Result) : Result :=
  match s.params.mode with
  | .normal => load16 s a fun w s => k (w.zeroExtend 24) s
  | .advanced => load32 s a fun l s => k (low24 l) s

/-- `push_pc` (44_branch R413). The reserved byte of the advanced-mode frame is a draw (D14). -/
def pushPc (s : State) (ret : Addr) (k : State → Result) : Result :=
  match s.params.mode with
  | .normal =>
    let sp := s.er .er7 - 2
    store16 s (low24 sp) (ret.extractLsb' 0 16) fun s => k (s.setEr .er7 sp)
  | .advanced =>
    let sp := s.er .er7 - 4
    store16 s (low24 sp) (s.free8 0 ++ ret.extractLsb' 16 8) fun s =>
      store16 s (low24 sp + 2) (ret.extractLsb' 0 16) fun s => k (s.setEr .er7 sp)

/-- `pop_pc` (R413): the address popped and the machine with ER7 moved. -/
def popPc (s : State) (k : Addr → State → Result) : Result :=
  match s.params.mode with
  | .normal => load16 s (s.eaAt .er7) fun w s => k (w.zeroExtend 24) (s.setEr .er7 (s.er .er7 + 2))
  | .advanced =>
    load16 s (s.eaAt .er7) fun h s => load16 s (s.eaAt .er7 + 2) fun l s =>
      k (h.extractLsb' 0 8 ++ l) (s.setEr .er7 (s.er .er7 + 4))

/-! ### Exceptions -/

/-- The address of an entry of the vector table (60_exceptions R530). -/
def vectorAddr (mode : Mode) (vec : Nat) : Addr :=
  match mode with
  | .normal => BitVec.ofNat 24 (2 * vec)
  | .advanced => BitVec.ofNat 24 (4 * vec)

/-- CCR after an exception entry (R522): I set, and UI when it is a mask bit. -/
def entryCcr (uiIsMask : Bool) (ccr : Byte) : Byte :=
  if uiIsMask then ccrPut (ccrPut ccr .i true) .ui true else ccrPut ccr .i true

/-- The word of the frame that holds CCR (R520, R521): CCR, then PC[23:16] in advanced mode, a draw in normal mode
(D15). -/
def State.frameHigh (s : State) (ret : Addr) : Word :=
  match s.params.mode with
  | .normal => s.ccr ++ s.free8 0
  | .advanced => s.ccr ++ ret.extractLsb' 16 8

/-- TAKING AN EXCEPTION: `exception_entry(ret, vec)` (R520). PC[15:0] is stacked first, then CCR; ER7 moves by 4; I (and
UI) are set; PC comes from the vector; the handler's first word is fetched last (R572). The discarded read that opens
the sequence unless it wakes the CPU (R524) is `discardNext` before it. -/
def exceptionEntry (s : State) (ret : Addr) (vec : Nat) : Result :=
  let sp := s.er .er7 - 4
  let high := s.frameHigh ret
  let ccr := entryCcr s.env.uiIsMask s.ccr
  let vector := vectorAddr s.params.mode vec
  store16 s (low24 sp + 2) (ret.extractLsb' 0 16) fun s => store16 s (low24 sp) high fun s =>
    loadPointer { (s.setEr .er7 sp).withCcr ccr with proc := .run } vector goTo

/-- RETURNING FROM AN EXCEPTION: the operation of RTE (45_system_control R460). -/
def exceptionReturn (s : State) : Result :=
  load16 s (s.eaAt .er7) fun h s => load16 s (s.eaAt .er7 + 2) fun l s =>
    let target : Addr :=
      match s.params.mode with
      | .normal => l.zeroExtend 24
      | .advanced => h.extractLsb' 0 8 ++ l
    goTo target ((s.setEr .er7 (s.er .er7 + 4)).withCcr (h.extractLsb' 8 8))

/-- `masked(src)` (R510, R511): I alone, or `UI_MASK` when UI is a mask bit. -/
def State.masked (s : State) (r : Irq) : Bool :=
  if s.env.uiIsMask then
    match s.params.uiMask.find? (fun row =>
        decide (row.src = r.src) && (row.i == s.flag .i) && (row.ui == s.flag .ui)) with
    | some row => row.masked
    | none => s.flag .i
  else s.flag .i

/-- The request accepted at a detection point, NMI first (R510, D19): its vector, and the inputs without it. -/
def State.acceptedRequest (s : State) : Option (Nat × Env) :=
  match s.env.nmi with
  | some v => some (v, { s.env with nmi := none })
  | none =>
    match s.env.irq with
    | some r => if s.masked r then none else some (r.vector, { s.env with irq := none })
    | none => none

/-- Reset exception handling (70_reset R562, R563): nothing is stacked; the general registers and the seven other CCR
bits are draws (D4); PC from the reset vector; the inhibit is set. -/
def resetException (s : State) : Result :=
  let regs : RegFile :=
    ⟨s.free32 0, s.free32 1, s.free32 2, s.free32 3, s.free32 4, s.free32 5, s.free32 6, s.free32 7⟩
  let s' := { s with regs := regs, ccr := ccrPut (s.free8 8) .i true, intInhibit := true, proc := .run }
  loadPointer s' s.params.resetVector goTo

end Sys2Proof.Machine
end

