-- ==== Sys2Proof/Machine/DataTransfer.lean ====
section
/-! DEFINITION. The meanings of the data-transfer instructions: MOV, POP, PUSH, MOVFPE, MOVTPE (40_data_transfer). -/

namespace Sys2Proof.Machine

/-- Reg8(rd) ← v with `mov_flags` (R141); also the result of the logic instructions (42_logic_shift R280). -/
def State.move8 (s : State) (rd : R8) (v : Byte) : State := (s.setReg8 rd v).withCcr (movFlags s.ccr v)

/-- Reg16(rd) ← v with `mov_flags`. -/
def State.move16 (s : State) (rd : R16) (v : Word) : State := (s.setReg16 rd v).withCcr (movFlags s.ccr v)

/-- ER[erd] ← v with `mov_flags`. -/
def State.move32 (s : State) (erd : ERn) (v : Long) : State := (s.setEr erd v).withCcr (movFlags s.ccr v)

/-- A byte load from an address that no register update goes with: the next word is fetched, then the datum read
(20_memory R86). -/
def loadMov8 (len ea : Addr) (rd : R8) (s : State) : Result :=
  advance len s fun s => load8 s ea fun v s => .next (s.move8 rd v)

/-- A word load. -/
def loadMov16 (len ea : Addr) (rd : R16) (s : State) : Result :=
  advance len s fun s => load16 s ea fun v s => .next (s.move16 rd v)

/-- A longword load. -/
def loadMov32 (len ea : Addr) (erd : ERn) (s : State) : Result :=
  advance len s fun s => load32 s ea fun v s => .next (s.move32 erd v)

/-- A byte load with @ERs+ (30_encoding R113). Where the destination is part of ERs the whole of ERs is a draw and the
rest is as always (R192). -/
def loadPost8 (len : Addr) (ers : ERn) (rd : R8) (s : State) : Result :=
  advance len s fun s => load8 s (s.eaAt ers) fun v s =>
    .next <| (if rd.n = ers then s.setEr ers (s.free32 0)
      else (s.setEr ers (s.er ers + 1)).setReg8 rd v).withCcr (movFlags s.ccr v)

/-- A word load with @ERs+, also POP.W (R186, R192). -/
def loadPost16 (len : Addr) (ers : ERn) (rd : R16) (s : State) : Result :=
  advance len s fun s => load16 s (s.eaAt ers) fun v s =>
    .next <| (if rd.n = ers then s.setEr ers (s.free32 0)
      else (s.setEr ers (s.er ers + 2)).setReg16 rd v).withCcr (movFlags s.ccr v)

/-- A longword load with @ERs+, also POP.L (R187, R192). -/
def loadPost32 (len : Addr) (ers erd : ERn) (s : State) : Result :=
  advance len s fun s => load32 s (s.eaAt ers) fun v s =>
    .next <| (if erd = ers then s.setEr ers (s.free32 0)
      else (s.setEr ers (s.er ers + 4)).setEr erd v).withCcr (movFlags s.ccr v)

/-- A byte store: flags, the next word fetched, then the write (70_reset R572). -/
def storeMov8 (len ea : Addr) (v : Byte) (s : State) : Result :=
  advance len (s.withCcr (movFlags s.ccr v)) fun s' => store8 s' ea v .next

/-- A word store. -/
def storeMov16 (len ea : Addr) (v : Word) (s : State) : Result :=
  advance len (s.withCcr (movFlags s.ccr v)) fun s' => store16 s' ea v .next

/-- A longword store. -/
def storeMov32 (len ea : Addr) (v : Long) (s : State) : Result :=
  advance len (s.withCcr (movFlags s.ccr v)) fun s' => store32 s' ea v .next

/-- A byte store with @-ERd: ERd is decremented first, then the source register is read (30_encoding R113, R115). -/
def storePre8 (len : Addr) (rs : R8) (erd : ERn) (s : State) : Result :=
  let s' := s.setEr erd (s.er erd - 1)
  storeMov8 len (s'.eaAt erd) (s'.reg8 rs) s'

/-- A word store with @-ERd, also PUSH.W (R188). -/
def storePre16 (len : Addr) (rs : R16) (erd : ERn) (s : State) : Result :=
  let s' := s.setEr erd (s.er erd - 2)
  storeMov16 len (s'.eaAt erd) (s'.reg16 rs) s'

/-- A longword store with @-ERd, also PUSH.L (R189). -/
def storePre32 (len : Addr) (ers erd : ERn) (s : State) : Result :=
  let s' := s.setEr erd (s.er erd - 4)
  let v := s'.er ers
  advance len (s'.withCcr (movFlags s'.ccr v)) fun s'' => store32AnyOrder s'' (s'.eaAt erd) v .next

/-- MOVFPE's load: that of MOV.B @aa:16. Table 2.10 prints no fetch of the next word for it: a draw decides whether it
comes before or after the read (R190). -/
def loadPeripheral (len ea : Addr) (rd : R8) (s : State) : Result :=
  drawn (s.free1 0) (loadMov8 len ea rd s) (load8 s ea fun v s => goNext len (s.move8 rd v))

/-- MOVTPE's store: that of MOV.B Rs,@aa:16, the next word fetched before or after the write, as a draw decides (R191,
70_reset_and_hazards R572, 93_implementation_defined U15). -/
def storePeripheral (len ea : Addr) (v : Byte) (s : State) : Result :=
  drawn (s.free1 0) (storeMov8 len ea v s) (store8 s ea v fun s => goNext len (s.withCcr (movFlags s.ccr v)))

/-- MOV.B Rs,Rd (R142). -/
def execMovBRsRd (rs : R8) (rd : R8) (s : State) : Result :=
  goNext 2 (s.move8 rd (s.reg8 rs))

/-- MOV.W Rs,Rd (R143). -/
def execMovWRsRd (rs : R16) (rd : R16) (s : State) : Result :=
  goNext 2 (s.move16 rd (s.reg16 rs))

/-- MOV.L ERs,ERd (R144). -/
def execMovLERsERd (ers : ERn) (erd : ERn) (s : State) : Result :=
  goNext 2 (s.move32 erd (s.er ers))

/-- MOV.B #xx:8,Rd (R145). -/
def execMovBImm8Rd (imm8 : Byte) (rd : R8) (s : State) : Result :=
  goNext 2 (s.move8 rd imm8)

/-- MOV.B @ERs,Rd (R148). -/
def execMovBAtERsRd (ers : ERn) (rd : R8) (s : State) : Result :=
  loadMov8 2 (s.eaAt ers) rd s

/-- MOV.B @(d:16,ERs),Rd (R149). -/
def execMovBD16ERsRd (disp16 : Word) (ers : ERn) (rd : R8) (s : State) : Result :=
  loadMov8 4 (s.eaD16 disp16 ers) rd s

/-- MOV.B @(d:24,ERs),Rd (R150). -/
def execMovBD24ERsRd (disp24 : Addr) (ers : ERn) (rd : R8) (s : State) : Result :=
  loadMov8 8 (s.eaD24 disp24 ers) rd s

/-- MOV.B @ERs+,Rd (R151). -/
def execMovBPostERsRd (ers : ERn) (rd : R8) (s : State) : Result :=
  loadPost8 2 ers rd s

/-- MOV.B @aa:8,Rd (R152). -/
def execMovBAbs8Rd (abs8 : Byte) (rd : R8) (s : State) : Result :=
  loadMov8 2 (eaAbs8 abs8) rd s

/-- MOV.B @aa:16,Rd (R153). -/
def execMovBAbs16Rd (abs16 : Word) (rd : R8) (s : State) : Result :=
  loadMov8 4 (eaAbs16 abs16) rd s

/-- MOV.B @aa:24,Rd (R154). -/
def execMovBAbs24Rd (abs24 : Addr) (rd : R8) (s : State) : Result :=
  loadMov8 6 abs24 rd s

/-- MOV.W #xx:16,Rd (R146). -/
def execMovWImm16Rd (imm16 : Word) (rd : R16) (s : State) : Result :=
  goNext 4 (s.move16 rd imm16)

/-- MOV.W @ERs,Rd (R155). -/
def execMovWAtERsRd (ers : ERn) (rd : R16) (s : State) : Result :=
  loadMov16 2 (s.eaAt ers) rd s

/-- MOV.W @(d:16,ERs),Rd (R156). -/
def execMovWD16ERsRd (disp16 : Word) (ers : ERn) (rd : R16) (s : State) : Result :=
  loadMov16 4 (s.eaD16 disp16 ers) rd s

/-- MOV.W @(d:24,ERs),Rd (R157). -/
def execMovWD24ERsRd (disp24 : Addr) (ers : ERn) (rd : R16) (s : State) : Result :=
  loadMov16 8 (s.eaD24 disp24 ers) rd s

/-- MOV.W @ERs+,Rd (R158). -/
def execMovWPostERsRd (ers : ERn) (rd : R16) (s : State) : Result :=
  loadPost16 2 ers rd s

/-- MOV.W @aa:16,Rd (R159). -/
def execMovWAbs16Rd (abs16 : Word) (rd : R16) (s : State) : Result :=
  loadMov16 4 (eaAbs16 abs16) rd s

/-- MOV.W @aa:24,Rd (R160). -/
def execMovWAbs24Rd (abs24 : Addr) (rd : R16) (s : State) : Result :=
  loadMov16 6 abs24 rd s

/-- MOV.L #xx:32,ERd (R147). -/
def execMovLImm32ERd (imm32 : Long) (erd : ERn) (s : State) : Result :=
  goNext 6 (s.move32 erd imm32)

/-- MOV.L @ERs,ERd (R161). -/
def execMovLAtERsERd (ers : ERn) (erd : ERn) (s : State) : Result :=
  loadMov32 4 (s.eaAt ers) erd s

/-- MOV.L @(d:16,ERs),ERd (R162). -/
def execMovLD16ERsERd (disp16 : Word) (ers : ERn) (erd : ERn) (s : State) : Result :=
  loadMov32 6 (s.eaD16 disp16 ers) erd s

/-- MOV.L @(d:24,ERs),ERd (R163). -/
def execMovLD24ERsERd (disp24 : Addr) (ers : ERn) (erd : ERn) (s : State) : Result :=
  loadMov32 10 (s.eaD24 disp24 ers) erd s

/-- MOV.L @ERs+,ERd (R164). -/
def execMovLPostERsERd (ers : ERn) (erd : ERn) (s : State) : Result :=
  loadPost32 4 ers erd s

/-- MOV.L @aa:16,ERd (R165). -/
def execMovLAbs16ERd (abs16 : Word) (erd : ERn) (s : State) : Result :=
  loadMov32 6 (eaAbs16 abs16) erd s

/-- MOV.L @aa:24,ERd (R166). -/
def execMovLAbs24ERd (abs24 : Addr) (erd : ERn) (s : State) : Result :=
  loadMov32 8 abs24 erd s

/-- MOV.B Rs,@ERd (R167). -/
def execMovBRsAtERd (rs : R8) (erd : ERn) (s : State) : Result :=
  storeMov8 2 (s.eaAt erd) (s.reg8 rs) s

/-- MOV.B Rs,@(d:16,ERd) (R168). -/
def execMovBRsD16ERd (rs : R8) (disp16 : Word) (erd : ERn) (s : State) : Result :=
  storeMov8 4 (s.eaD16 disp16 erd) (s.reg8 rs) s

/-- MOV.B Rs,@(d:24,ERd) (R169). -/
def execMovBRsD24ERd (rs : R8) (disp24 : Addr) (erd : ERn) (s : State) : Result :=
  storeMov8 8 (s.eaD24 disp24 erd) (s.reg8 rs) s

/-- MOV.B Rs,@-ERd (R170). -/
def execMovBRsPreERd (rs : R8) (erd : ERn) (s : State) : Result :=
  storePre8 2 rs erd s

/-- MOV.B Rs,@aa:8 (R171). -/
def execMovBRsAbs8 (rs : R8) (abs8 : Byte) (s : State) : Result :=
  storeMov8 2 (eaAbs8 abs8) (s.reg8 rs) s

/-- MOV.B Rs,@aa:16 (R172). -/
def execMovBRsAbs16 (rs : R8) (abs16 : Word) (s : State) : Result :=
  storeMov8 4 (eaAbs16 abs16) (s.reg8 rs) s

/-- MOV.B Rs,@aa:24 (R173). -/
def execMovBRsAbs24 (rs : R8) (abs24 : Addr) (s : State) : Result :=
  storeMov8 6 abs24 (s.reg8 rs) s

/-- MOV.W Rs,@ERd (R174). -/
def execMovWRsAtERd (rs : R16) (erd : ERn) (s : State) : Result :=
  storeMov16 2 (s.eaAt erd) (s.reg16 rs) s

/-- MOV.W Rs,@(d:16,ERd) (R175). -/
def execMovWRsD16ERd (rs : R16) (disp16 : Word) (erd : ERn) (s : State) : Result :=
  storeMov16 4 (s.eaD16 disp16 erd) (s.reg16 rs) s

/-- MOV.W Rs,@(d:24,ERd) (R176). -/
def execMovWRsD24ERd (rs : R16) (disp24 : Addr) (erd : ERn) (s : State) : Result :=
  storeMov16 8 (s.eaD24 disp24 erd) (s.reg16 rs) s

/-- MOV.W Rs,@-ERd (R177). -/
def execMovWRsPreERd (rs : R16) (erd : ERn) (s : State) : Result :=
  storePre16 2 rs erd s

/-- MOV.W Rs,@aa:16 (R178). -/
def execMovWRsAbs16 (rs : R16) (abs16 : Word) (s : State) : Result :=
  storeMov16 4 (eaAbs16 abs16) (s.reg16 rs) s

/-- MOV.W Rs,@aa:24 (R179). -/
def execMovWRsAbs24 (rs : R16) (abs24 : Addr) (s : State) : Result :=
  storeMov16 6 abs24 (s.reg16 rs) s

/-- MOV.L ERs,@ERd (R180). -/
def execMovLERsAtERd (ers : ERn) (erd : ERn) (s : State) : Result :=
  storeMov32 4 (s.eaAt erd) (s.er ers) s

/-- MOV.L ERs,@(d:16,ERd) (R181). -/
def execMovLERsD16ERd (ers : ERn) (disp16 : Word) (erd : ERn) (s : State) : Result :=
  storeMov32 6 (s.eaD16 disp16 erd) (s.er ers) s

/-- MOV.L ERs,@(d:24,ERd) (R182). -/
def execMovLERsD24ERd (ers : ERn) (disp24 : Addr) (erd : ERn) (s : State) : Result :=
  storeMov32 10 (s.eaD24 disp24 erd) (s.er ers) s

/-- MOV.L ERs,@-ERd (R183). -/
def execMovLERsPreERd (ers : ERn) (erd : ERn) (s : State) : Result :=
  storePre32 4 ers erd s

/-- MOV.L ERs,@aa:16 (R184). -/
def execMovLERsAbs16 (ers : ERn) (abs16 : Word) (s : State) : Result :=
  storeMov32 6 (eaAbs16 abs16) (s.er ers) s

/-- MOV.L ERs,@aa:24 (R185). -/
def execMovLERsAbs24 (ers : ERn) (abs24 : Addr) (s : State) : Result :=
  storeMov32 8 abs24 (s.er ers) s

/-- MOVFPE @aa:16,Rd (R190). -/
def execMovfpeAbs16Rd (abs16 : Word) (rd : R8) (s : State) : Result :=
  if s.params.eClock then loadPeripheral 4 (eaAbs16 abs16) rd s else .fault .movfpeWithoutEClock

/-- MOVTPE Rs,@aa:16 (R191). -/
def execMovtpeRsAbs16 (rs : R8) (abs16 : Word) (s : State) : Result :=
  if s.params.eClock then storePeripheral 4 (eaAbs16 abs16) (s.reg8 rs) s
  else .fault .movtpeWithoutEClock

/-- POP.W Rn (R186). -/
def execPopWRn (rn : R16) (s : State) : Result :=
  loadPost16 2 .er7 rn s

/-- POP.L ERn (R187). -/
def execPopLERn (ern : ERn) (s : State) : Result :=
  loadPost32 4 .er7 ern s

/-- PUSH.W Rn (R188). -/
def execPushWRn (rn : R16) (s : State) : Result :=
  storePre16 2 rn .er7 s

/-- PUSH.L ERn (R189). -/
def execPushLERn (ern : ERn) (s : State) : Result :=
  storePre32 4 ern .er7 s

end Sys2Proof.Machine
end

