-- ==== Sys2Proof/Machine/Arithmetic.lean ====
section
/-! DEFINITION. The meanings of the arithmetic instructions (41_arithmetic). -/

namespace Sys2Proof.Machine

/-- Rd + src → Rd (R201, R202). -/
def add8 (len : Addr) (rd : R8) (src : Byte) (s : State) : Result :=
  goNext len ((s.setReg8 rd (addResult (s.reg8 rd) src false)).withCcr (addFlags s.ccr (s.reg8 rd) src false))

/-- Rd + src → Rd, word (R203, R204). -/
def add16 (len : Addr) (rd : R16) (src : Word) (s : State) : Result :=
  goNext len ((s.setReg16 rd (addResult (s.reg16 rd) src false)).withCcr (addFlags s.ccr (s.reg16 rd) src false))

/-- ERd + src → ERd (R205, R206). -/
def add32 (len : Addr) (erd : ERn) (src : Long) (s : State) : Result :=
  goNext len ((s.setEr erd (addResult (s.er erd) src false)).withCcr (addFlags s.ccr (s.er erd) src false))

/-- Rd - src → Rd (R218). -/
def sub8 (len : Addr) (rd : R8) (src : Byte) (s : State) : Result :=
  goNext len ((s.setReg8 rd (subResult (s.reg8 rd) src false)).withCcr (subFlags s.ccr (s.reg8 rd) src false))

/-- Rd - src → Rd, word (R219, R220). -/
def sub16 (len : Addr) (rd : R16) (src : Word) (s : State) : Result :=
  goNext len ((s.setReg16 rd (subResult (s.reg16 rd) src false)).withCcr (subFlags s.ccr (s.reg16 rd) src false))

/-- ERd - src → ERd (R221, R222). -/
def sub32 (len : Addr) (erd : ERn) (src : Long) (s : State) : Result :=
  goNext len ((s.setEr erd (subResult (s.er erd) src false)).withCcr (subFlags s.ccr (s.er erd) src false))

/-- Rd - src sets the flags only (R212, R213). -/
def cmp8 (len : Addr) (rd : R8) (src : Byte) (s : State) : Result :=
  goNext len (s.withCcr (subFlags s.ccr (s.reg8 rd) src false))

/-- Rd - src, word (R214, R215). -/
def cmp16 (len : Addr) (rd : R16) (src : Word) (s : State) : Result :=
  goNext len (s.withCcr (subFlags s.ccr (s.reg16 rd) src false))

/-- ERd - src (R216, R217). -/
def cmp32 (len : Addr) (erd : ERn) (src : Long) (s : State) : Result :=
  goNext len (s.withCcr (subFlags s.ccr (s.er erd) src false))

/-- Rd + src + C → Rd (R210, R211). -/
def addx8 (len : Addr) (rd : R8) (src : Byte) (s : State) : Result :=
  let r := addResult (s.reg8 rd) src (s.flag .c)
  goNext len ((s.setReg8 rd r).withCcr (keepZ s.ccr (addFlags s.ccr (s.reg8 rd) src (s.flag .c)) r))

/-- Rd - src - C → Rd (R226, R227). -/
def subx8 (len : Addr) (rd : R8) (src : Byte) (s : State) : Result :=
  let r := subResult (s.reg8 rd) src (s.flag .c)
  goNext len ((s.setReg8 rd r).withCcr (keepZ s.ccr (subFlags s.ccr (s.reg8 rd) src (s.flag .c)) r))

/-- Rd + k → Rd (R230). -/
def inc8 (len : Addr) (rd : R8) (k : Byte) (s : State) : Result :=
  goNext len ((s.setReg8 rd (s.reg8 rd + k)).withCcr (incFlags s.ccr (s.reg8 rd) k))

/-- Rd + k → Rd, word (R231, R232). -/
def inc16 (len : Addr) (rd : R16) (k : Word) (s : State) : Result :=
  goNext len ((s.setReg16 rd (s.reg16 rd + k)).withCcr (incFlags s.ccr (s.reg16 rd) k))

/-- ERd + k → ERd (R233, R234). -/
def inc32 (len : Addr) (erd : ERn) (k : Long) (s : State) : Result :=
  goNext len ((s.setEr erd (s.er erd + k)).withCcr (incFlags s.ccr (s.er erd) k))

/-- Rd - k → Rd (R235). -/
def dec8 (len : Addr) (rd : R8) (k : Byte) (s : State) : Result :=
  goNext len ((s.setReg8 rd (s.reg8 rd - k)).withCcr (decFlags s.ccr (s.reg8 rd) k))

/-- Rd - k → Rd, word (R236, R237). -/
def dec16 (len : Addr) (rd : R16) (k : Word) (s : State) : Result :=
  goNext len ((s.setReg16 rd (s.reg16 rd - k)).withCcr (decFlags s.ccr (s.reg16 rd) k))

/-- ERd - k → ERd (R238, R239). -/
def dec32 (len : Addr) (erd : ERn) (k : Long) (s : State) : Result :=
  goNext len ((s.setEr erd (s.er erd - k)).withCcr (decFlags s.ccr (s.er erd) k))

/-- 0 - Rd → Rd (R240). -/
def neg8 (len : Addr) (rd : R8) (s : State) : Result :=
  goNext len ((s.setReg8 rd (subResult 0 (s.reg8 rd) false)).withCcr (subFlags s.ccr 0 (s.reg8 rd) false))

/-- 0 - Rd → Rd, word (R241). -/
def neg16 (len : Addr) (rd : R16) (s : State) : Result :=
  goNext len ((s.setReg16 rd (subResult 0 (s.reg16 rd) false)).withCcr (subFlags s.ccr 0 (s.reg16 rd) false))

/-- 0 - ERd → ERd (R242). -/
def neg32 (len : Addr) (erd : ERn) (s : State) : Result :=
  goNext len ((s.setEr erd (subResult 0 (s.er erd) false)).withCcr (subFlags s.ccr 0 (s.er erd) false))

/-- The rows of the adjustment table of DAA (R228): the value added and C after; `none` outside the table. -/
def daaRow (c h : Bool) (hi lo : Nat) : Option (Byte × Bool) :=
  match c, h with
  | false, false =>
    if hi ≤ 9 ∧ lo ≤ 9 then some (0x00, false)
    else if hi ≤ 8 ∧ 10 ≤ lo then some (0x06, false)
    else if 10 ≤ hi ∧ lo ≤ 9 then some (0x60, true)
    else if 9 ≤ hi ∧ 10 ≤ lo then some (0x66, true)
    else none
  | false, true =>
    if hi ≤ 9 ∧ lo ≤ 3 then some (0x06, false)
    else if 10 ≤ hi ∧ lo ≤ 3 then some (0x66, true)
    else none
  | true, false =>
    if hi ≤ 2 ∧ lo ≤ 9 then some (0x60, true)
    else if hi ≤ 2 ∧ 10 ≤ lo then some (0x66, true)
    else none
  | true, true => if hi ≤ 3 ∧ lo ≤ 3 then some (0x66, true) else none

/-- The rows of the adjustment table of DAS (R229): the value added; C stays. -/
def dasRow (c h : Bool) (hi lo : Nat) : Option Byte :=
  match c, h with
  | false, false => if hi ≤ 9 ∧ lo ≤ 9 then some 0x00 else none
  | false, true => if hi ≤ 8 ∧ 6 ≤ lo then some 0xFA else none
  | true, false => if 7 ≤ hi ∧ lo ≤ 9 then some 0xA0 else none
  | true, true => if 6 ≤ hi ∧ 6 ≤ lo then some 0x9A else none

/-- The upper digit of a byte. -/
def highDigit (d : Byte) : Nat := (d.extractLsb' 4 4).toNat

/-- The lower digit of a byte. -/
def lowDigit (d : Byte) : Nat := (d.extractLsb' 0 4).toNat

/-- H and V are draws after DAA and DAS (R228, R229). -/
def State.drawHV (s : State) (ccr : Byte) : Byte := ccrPut (ccrPut ccr .h (s.free1 1)) .v (s.free1 2)

/-- Outside the table of DAA and DAS the register and H, N, Z, V, C are draws (R228, R229). -/
def State.decimalUndefined (s : State) (rd : R8) : State :=
  (s.setReg8 rd (s.free8 0)).withCcr
    (ccrPut (ccrPut (ccrPut (s.drawHV s.ccr) .n (s.free1 3)) .z (s.free1 4)) .c (s.free1 5))

/-- DAA (R228). -/
def daa8 (len : Addr) (rd : R8) (s : State) : Result :=
  let d := s.reg8 rd
  match daaRow (s.flag .c) (s.flag .h) (highDigit d) (lowDigit d) with
  | some (added, carry) =>
    goNext len ((s.setReg8 rd (d + added)).withCcr (ccrPut (s.drawHV (ccrNZ s.ccr (d + added))) .c carry))
  | none => goNext len (s.decimalUndefined rd)

/-- DAS (R229). -/
def das8 (len : Addr) (rd : R8) (s : State) : Result :=
  let d := s.reg8 rd
  match dasRow (s.flag .c) (s.flag .h) (highDigit d) (lowDigit d) with
  | some added => goNext len ((s.setReg8 rd (d + added)).withCcr (s.drawHV (ccrNZ s.ccr (d + added))))
  | none => goNext len (s.decimalUndefined rd)

/-- The low byte of Rd times Rs, unsigned, into the 16 bits of Rd; no flags (R247). -/
def mulxu8 (len : Addr) (rs : R8) (rd : R16) (s : State) : Result :=
  goNext len (s.setReg16 rd (((s.reg16 rd).extractLsb' 0 8).zeroExtend 16 * (s.reg8 rs).zeroExtend 16))

/-- The low word of ERd times Rs, unsigned, into ERd; no flags (R248). -/
def mulxu16 (len : Addr) (rs : R16) (erd : ERn) (s : State) : Result :=
  goNext len (s.setEr erd (((s.er erd).extractLsb' 0 16).zeroExtend 32 * (s.reg16 rs).zeroExtend 32))

/-- The signed product; N and Z from the 16 bits of it (R249). -/
def mulxs8 (len : Addr) (rs : R8) (rd : R16) (s : State) : Result :=
  let p : Word := ((s.reg16 rd).extractLsb' 0 8).signExtend 16 * (s.reg8 rs).signExtend 16
  goNext len ((s.setReg16 rd p).withCcr (ccrNZ s.ccr p))

/-- The signed product; N and Z from the 32 bits of it (R250). -/
def mulxs16 (len : Addr) (rs : R16) (erd : ERn) (s : State) : Result :=
  let p : Long := ((s.er erd).extractLsb' 0 16).signExtend 32 * (s.reg16 rs).signExtend 32
  goNext len ((s.setEr erd p).withCcr (ccrNZ s.ccr p))

/-- Remainder and quotient of an unsigned division (R251, R252); `none` for divisor 0 and for a quotient that does not
fit (R255, R256). -/
def divideUnsigned (w : Nat) (dividend divisor : Nat) : Option (BitVec w × BitVec w) :=
  if divisor = 0 ∨ 2 ^ w ≤ dividend / divisor then none
  else some (BitVec.ofNat w (dividend % divisor), BitVec.ofNat w (dividend / divisor))

/-- Remainder and quotient of a signed division, rounded toward zero (R253, R254); `none` for divisor 0 and for a
quotient that does not fit (R255, R256). -/
def divideSigned (w : Nat) (dividend divisor : Int) : Option (BitVec w × BitVec w) :=
  let q := dividend.tdiv divisor
  if divisor = 0 ∨ q < -(2 ^ (w - 1) : Int) ∨ (2 ^ (w - 1) : Int) ≤ q then none
  else some (BitVec.ofInt w (dividend.tmod divisor), BitVec.ofInt w q)

/-- The remainder in the upper byte, the quotient in the lower; a draw where there is none (R255, R256). -/
def State.quotient16 (s : State) (r : Option (Byte × Byte)) : Word :=
  match r with
  | some (rem, q) => rem ++ q
  | none => s.free16 0

/-- The remainder in the upper word, the quotient in the lower; a draw where there is none. -/
def State.quotient32 (s : State) (r : Option (Word × Word)) : Long :=
  match r with
  | some (rem, q) => rem ++ q
  | none => s.free32 0

/-- DIVXU.B (R251): N is the top bit of the divisor. -/
def divxu8 (len : Addr) (rs : R8) (rd : R16) (s : State) : Result :=
  goNext len ((s.setReg16 rd (s.quotient16 (divideUnsigned 8 (s.reg16 rd).toNat (s.reg8 rs).toNat))).withCcr
    (divFlags s.ccr (s.reg8 rs).msb (s.reg8 rs)))

/-- DIVXU.W (R252). -/
def divxu16 (len : Addr) (rs : R16) (erd : ERn) (s : State) : Result :=
  goNext len ((s.setEr erd (s.quotient32 (divideUnsigned 16 (s.er erd).toNat (s.reg16 rs).toNat))).withCcr
    (divFlags s.ccr (s.reg16 rs).msb (s.reg16 rs)))

/-- DIVXS.B (R253): N is set when the signs of the operands differ. -/
def divxs8 (len : Addr) (rs : R8) (rd : R16) (s : State) : Result :=
  goNext len ((s.setReg16 rd (s.quotient16 (divideSigned 8 (s.reg16 rd).toInt (s.reg8 rs).toInt))).withCcr
    (divFlags s.ccr ((s.reg16 rd).msb != (s.reg8 rs).msb) (s.reg8 rs)))

/-- DIVXS.W (R254). -/
def divxs16 (len : Addr) (rs : R16) (erd : ERn) (s : State) : Result :=
  goNext len ((s.setEr erd (s.quotient32 (divideSigned 16 (s.er erd).toInt (s.reg16 rs).toInt))).withCcr
    (divFlags s.ccr ((s.er erd).msb != (s.reg16 rs).msb) (s.reg16 rs)))

/-- ADD.B #xx:8,Rd (R201). -/
def execAddBImm8Rd (imm8 : Byte) (rd : R8) (s : State) : Result :=
  add8 2 rd imm8 s

/-- ADD.B Rs,Rd (R202). -/
def execAddBRsRd (rs : R8) (rd : R8) (s : State) : Result :=
  add8 2 rd (s.reg8 rs) s

/-- ADD.W #xx:16,Rd (R203). -/
def execAddWImm16Rd (imm16 : Word) (rd : R16) (s : State) : Result :=
  add16 4 rd imm16 s

/-- ADD.W Rs,Rd (R204). -/
def execAddWRsRd (rs : R16) (rd : R16) (s : State) : Result :=
  add16 2 rd (s.reg16 rs) s

/-- ADD.L #xx:32,ERd (R205). -/
def execAddLImm32ERd (imm32 : Long) (erd : ERn) (s : State) : Result :=
  add32 6 erd imm32 s

/-- ADD.L ERs,ERd (R206). -/
def execAddLERsERd (ers : ERn) (erd : ERn) (s : State) : Result :=
  add32 2 erd (s.er ers) s

/-- ADDS #1,ERd (R207). -/
def execAddsOneERd (erd : ERn) (s : State) : Result :=
  goNext 2 (s.setEr erd (s.er erd + 1))

/-- ADDS #2,ERd (R208). -/
def execAddsTwoERd (erd : ERn) (s : State) : Result :=
  goNext 2 (s.setEr erd (s.er erd + 2))

/-- ADDS #4,ERd (R209). -/
def execAddsFourERd (erd : ERn) (s : State) : Result :=
  goNext 2 (s.setEr erd (s.er erd + 4))

/-- ADDX #xx:8,Rd (R210). -/
def execAddxImm8Rd (imm8 : Byte) (rd : R8) (s : State) : Result :=
  addx8 2 rd imm8 s

/-- ADDX Rs,Rd (R211). -/
def execAddxRsRd (rs : R8) (rd : R8) (s : State) : Result :=
  addx8 2 rd (s.reg8 rs) s

/-- CMP.B #xx:8,Rd (R212). -/
def execCmpBImm8Rd (imm8 : Byte) (rd : R8) (s : State) : Result :=
  cmp8 2 rd imm8 s

/-- CMP.B Rs,Rd (R213). -/
def execCmpBRsRd (rs : R8) (rd : R8) (s : State) : Result :=
  cmp8 2 rd (s.reg8 rs) s

/-- CMP.W #xx:16,Rd (R214). -/
def execCmpWImm16Rd (imm16 : Word) (rd : R16) (s : State) : Result :=
  cmp16 4 rd imm16 s

/-- CMP.W Rs,Rd (R215). -/
def execCmpWRsRd (rs : R16) (rd : R16) (s : State) : Result :=
  cmp16 2 rd (s.reg16 rs) s

/-- CMP.L #xx:32,ERd (R216). -/
def execCmpLImm32ERd (imm32 : Long) (erd : ERn) (s : State) : Result :=
  cmp32 6 erd imm32 s

/-- CMP.L ERs,ERd (R217). -/
def execCmpLERsERd (ers : ERn) (erd : ERn) (s : State) : Result :=
  cmp32 2 erd (s.er ers) s

/-- SUB.B Rs,Rd (R218). -/
def execSubBRsRd (rs : R8) (rd : R8) (s : State) : Result :=
  sub8 2 rd (s.reg8 rs) s

/-- SUB.W #xx:16,Rd (R219). -/
def execSubWImm16Rd (imm16 : Word) (rd : R16) (s : State) : Result :=
  sub16 4 rd imm16 s

/-- SUB.W Rs,Rd (R220). -/
def execSubWRsRd (rs : R16) (rd : R16) (s : State) : Result :=
  sub16 2 rd (s.reg16 rs) s

/-- SUB.L #xx:32,ERd (R221). -/
def execSubLImm32ERd (imm32 : Long) (erd : ERn) (s : State) : Result :=
  sub32 6 erd imm32 s

/-- SUB.L ERs,ERd (R222). -/
def execSubLERsERd (ers : ERn) (erd : ERn) (s : State) : Result :=
  sub32 2 erd (s.er ers) s

/-- SUBS #1,ERd (R223). -/
def execSubsOneERd (erd : ERn) (s : State) : Result :=
  goNext 2 (s.setEr erd (s.er erd - 1))

/-- SUBS #2,ERd (R224). -/
def execSubsTwoERd (erd : ERn) (s : State) : Result :=
  goNext 2 (s.setEr erd (s.er erd - 2))

/-- SUBS #4,ERd (R225). -/
def execSubsFourERd (erd : ERn) (s : State) : Result :=
  goNext 2 (s.setEr erd (s.er erd - 4))

/-- SUBX #xx:8,Rd (R226). -/
def execSubxImm8Rd (imm8 : Byte) (rd : R8) (s : State) : Result :=
  subx8 2 rd imm8 s

/-- SUBX Rs,Rd (R227). -/
def execSubxRsRd (rs : R8) (rd : R8) (s : State) : Result :=
  subx8 2 rd (s.reg8 rs) s

/-- DAA Rd (R228). -/
def execDaaRd (rd : R8) (s : State) : Result :=
  daa8 2 rd s

/-- DAS Rd (R229). -/
def execDasRd (rd : R8) (s : State) : Result :=
  das8 2 rd s

/-- INC.B Rd (R230). -/
def execIncBRd (rd : R8) (s : State) : Result :=
  inc8 2 rd 1 s

/-- INC.W #1,Rd (R231). -/
def execIncWOneRd (rd : R16) (s : State) : Result :=
  inc16 2 rd 1 s

/-- INC.W #2,Rd (R232). -/
def execIncWTwoRd (rd : R16) (s : State) : Result :=
  inc16 2 rd 2 s

/-- INC.L #1,ERd (R233). -/
def execIncLOneERd (erd : ERn) (s : State) : Result :=
  inc32 2 erd 1 s

/-- INC.L #2,ERd (R234). -/
def execIncLTwoERd (erd : ERn) (s : State) : Result :=
  inc32 2 erd 2 s

/-- DEC.B Rd (R235). -/
def execDecBRd (rd : R8) (s : State) : Result :=
  dec8 2 rd 1 s

/-- DEC.W #1,Rd (R236). -/
def execDecWOneRd (rd : R16) (s : State) : Result :=
  dec16 2 rd 1 s

/-- DEC.W #2,Rd (R237). -/
def execDecWTwoRd (rd : R16) (s : State) : Result :=
  dec16 2 rd 2 s

/-- DEC.L #1,ERd (R238). -/
def execDecLOneERd (erd : ERn) (s : State) : Result :=
  dec32 2 erd 1 s

/-- DEC.L #2,ERd (R239). -/
def execDecLTwoERd (erd : ERn) (s : State) : Result :=
  dec32 2 erd 2 s

/-- NEG.B Rd (R240). -/
def execNegBRd (rd : R8) (s : State) : Result :=
  neg8 2 rd s

/-- NEG.W Rd (R241). -/
def execNegWRd (rd : R16) (s : State) : Result :=
  neg16 2 rd s

/-- NEG.L ERd (R242). -/
def execNegLERd (erd : ERn) (s : State) : Result :=
  neg32 2 erd s

/-- EXTU.W Rd (R243). -/
def execExtuWRd (rd : R16) (s : State) : Result :=
  goNext 2 (s.move16 rd (((s.reg16 rd).extractLsb' 0 8).zeroExtend 16))

/-- EXTU.L ERd (R244). -/
def execExtuLERd (erd : ERn) (s : State) : Result :=
  goNext 2 (s.move32 erd (((s.er erd).extractLsb' 0 16).zeroExtend 32))

/-- EXTS.W Rd (R245). -/
def execExtsWRd (rd : R16) (s : State) : Result :=
  goNext 2 (s.move16 rd (((s.reg16 rd).extractLsb' 0 8).signExtend 16))

/-- EXTS.L ERd (R246). -/
def execExtsLERd (erd : ERn) (s : State) : Result :=
  goNext 2 (s.move32 erd (((s.er erd).extractLsb' 0 16).signExtend 32))

/-- MULXU.B Rs,Rd (R247). -/
def execMulxuBRsRd (rs : R8) (rd : R16) (s : State) : Result :=
  mulxu8 2 rs rd s

/-- MULXU.W Rs,ERd (R248). -/
def execMulxuWRsERd (rs : R16) (erd : ERn) (s : State) : Result :=
  mulxu16 2 rs erd s

/-- MULXS.B Rs,Rd (R249). -/
def execMulxsBRsRd (rs : R8) (rd : R16) (s : State) : Result :=
  mulxs8 4 rs rd s

/-- MULXS.W Rs,ERd (R250). -/
def execMulxsWRsERd (rs : R16) (erd : ERn) (s : State) : Result :=
  mulxs16 4 rs erd s

/-- DIVXU.B Rs,Rd (R251). -/
def execDivxuBRsRd (rs : R8) (rd : R16) (s : State) : Result :=
  divxu8 2 rs rd s

/-- DIVXU.W Rs,ERd (R252). -/
def execDivxuWRsERd (rs : R16) (erd : ERn) (s : State) : Result :=
  divxu16 2 rs erd s

/-- DIVXS.B Rs,Rd (R253). -/
def execDivxsBRsRd (rs : R8) (rd : R16) (s : State) : Result :=
  divxs8 4 rs rd s

/-- DIVXS.W Rs,ERd (R254). -/
def execDivxsWRsERd (rs : R16) (erd : ERn) (s : State) : Result :=
  divxs16 4 rs erd s

end Sys2Proof.Machine
end

