-- ==== Sys2Proof/Machine/BitManip.lean ====
section
/-! DEFINITION. The meanings of the bit-manipulation instructions (43_bit_manipulation R340 to R356). -/

namespace Sys2Proof.Machine

/-- The bit number a register gives: its low three bits (30_encoding R106). -/
def State.bitNumber (s : State) (rn : R8) : BitVec 3 := (s.reg8 rn).extractLsb' 0 3

/-- Bit n of a byte. -/
def bitOf (n : BitVec 3) (v : Byte) : Bool := v.getLsbD n.toNat

/-- A byte with bit n set (BSET, R343). -/
def setBit (n : BitVec 3) (v : Byte) : Byte := v ||| (1#8 <<< n.toNat)

/-- A byte with bit n cleared (BCLR, R344). -/
def clearBit (n : BitVec 3) (v : Byte) : Byte := v &&& ~~~(1#8 <<< n.toNat)

/-- A byte with bit n inverted (BNOT, R345). -/
def invertBit (n : BitVec 3) (v : Byte) : Byte := v ^^^ (1#8 <<< n.toNat)

/-- A byte with bit n made b (BST, BIST, R355, R356). -/
def storeBit (n : BitVec 3) (b : Bool) (v : Byte) : Byte := if b then setBit n v else clearBit n v

/-- Z ← the inverse of the bit (BTST, R346). -/
def bitTest (n : BitVec 3) (ccr v : Byte) : Byte := ccrPut ccr .z (!bitOf n v)

/-- C ← C and the bit (BAND, R347). -/
def bitAnd (n : BitVec 3) (ccr v : Byte) : Byte := ccrPut ccr .c (ccrGet ccr .c && bitOf n v)

/-- C ← C and the inverse of the bit (BIAND, R348). -/
def bitIAnd (n : BitVec 3) (ccr v : Byte) : Byte := ccrPut ccr .c (ccrGet ccr .c && !bitOf n v)

/-- C ← C or the bit (BOR, R349). -/
def bitOr (n : BitVec 3) (ccr v : Byte) : Byte := ccrPut ccr .c (ccrGet ccr .c || bitOf n v)

/-- C ← C or the inverse of the bit (BIOR, R350). -/
def bitIOr (n : BitVec 3) (ccr v : Byte) : Byte := ccrPut ccr .c (ccrGet ccr .c || !bitOf n v)

/-- C ← C xor the bit (BXOR, R351). -/
def bitXor (n : BitVec 3) (ccr v : Byte) : Byte := ccrPut ccr .c (ccrGet ccr .c ^^ bitOf n v)

/-- C ← C xor the inverse of the bit (BIXOR, R352). -/
def bitIXor (n : BitVec 3) (ccr v : Byte) : Byte := ccrPut ccr .c (ccrGet ccr .c ^^ !bitOf n v)

/-- C ← the bit (BLD, R353). -/
def bitLoad (n : BitVec 3) (ccr v : Byte) : Byte := ccrPut ccr .c (bitOf n v)

/-- C ← the inverse of the bit (BILD, R354). -/
def bitILoad (n : BitVec 3) (ccr v : Byte) : Byte := ccrPut ccr .c (!bitOf n v)

/-- A register byte rewritten; no flag changes. -/
def bitWriteReg (len : Addr) (rd : R8) (f : Byte → Byte) (s : State) : Result :=
  goNext len (s.setReg8 rd (f (s.reg8 rd)))

/-- A memory byte read, the next word fetched, the byte written back whole (R340, 20_memory R74); no flag changes. -/
def bitWriteMem (len ea : Addr) (f : Byte → Byte) (s : State) : Result :=
  load8 s ea fun v s => advance len s fun s => store8 s ea (f v) .next

/-- A memory byte read and CCR made from it. -/
def bitReadMem (len ea : Addr) (f : Byte → Byte → Byte) (s : State) : Result :=
  load8 s ea fun v s => goNext len (s.withCcr (f s.ccr v))

/-- BSET #xx:3,Rd (R343). -/
def execBsetImm3Rd (imm3 : BitVec 3) (rd : R8) (s : State) : Result :=
  bitWriteReg 2 rd (setBit imm3) s

/-- BSET #xx:3,@ERd (R343). -/
def execBsetImm3AtERd (imm3 : BitVec 3) (erd : ERn) (s : State) : Result :=
  bitWriteMem 4 (s.eaAt erd) (setBit imm3) s

/-- BSET #xx:3,@aa:8 (R343). -/
def execBsetImm3Abs8 (imm3 : BitVec 3) (abs8 : Byte) (s : State) : Result :=
  bitWriteMem 4 (eaAbs8 abs8) (setBit imm3) s

/-- BSET Rn,Rd (R343). -/
def execBsetRnRd (rn : R8) (rd : R8) (s : State) : Result :=
  bitWriteReg 2 rd (setBit (s.bitNumber rn)) s

/-- BSET Rn,@ERd (R343). -/
def execBsetRnAtERd (rn : R8) (erd : ERn) (s : State) : Result :=
  bitWriteMem 4 (s.eaAt erd) (setBit (s.bitNumber rn)) s

/-- BSET Rn,@aa:8 (R343). -/
def execBsetRnAbs8 (rn : R8) (abs8 : Byte) (s : State) : Result :=
  bitWriteMem 4 (eaAbs8 abs8) (setBit (s.bitNumber rn)) s

/-- BCLR #xx:3,Rd (R344). -/
def execBclrImm3Rd (imm3 : BitVec 3) (rd : R8) (s : State) : Result :=
  bitWriteReg 2 rd (clearBit imm3) s

/-- BCLR #xx:3,@ERd (R344). -/
def execBclrImm3AtERd (imm3 : BitVec 3) (erd : ERn) (s : State) : Result :=
  bitWriteMem 4 (s.eaAt erd) (clearBit imm3) s

/-- BCLR #xx:3,@aa:8 (R344). -/
def execBclrImm3Abs8 (imm3 : BitVec 3) (abs8 : Byte) (s : State) : Result :=
  bitWriteMem 4 (eaAbs8 abs8) (clearBit imm3) s

/-- BCLR Rn,Rd (R344). -/
def execBclrRnRd (rn : R8) (rd : R8) (s : State) : Result :=
  bitWriteReg 2 rd (clearBit (s.bitNumber rn)) s

/-- BCLR Rn,@ERd (R344). -/
def execBclrRnAtERd (rn : R8) (erd : ERn) (s : State) : Result :=
  bitWriteMem 4 (s.eaAt erd) (clearBit (s.bitNumber rn)) s

/-- BCLR Rn,@aa:8 (R344). -/
def execBclrRnAbs8 (rn : R8) (abs8 : Byte) (s : State) : Result :=
  bitWriteMem 4 (eaAbs8 abs8) (clearBit (s.bitNumber rn)) s

/-- BNOT #xx:3,Rd (R345). -/
def execBnotImm3Rd (imm3 : BitVec 3) (rd : R8) (s : State) : Result :=
  bitWriteReg 2 rd (invertBit imm3) s

/-- BNOT #xx:3,@ERd (R345). -/
def execBnotImm3AtERd (imm3 : BitVec 3) (erd : ERn) (s : State) : Result :=
  bitWriteMem 4 (s.eaAt erd) (invertBit imm3) s

/-- BNOT #xx:3,@aa:8 (R345). -/
def execBnotImm3Abs8 (imm3 : BitVec 3) (abs8 : Byte) (s : State) : Result :=
  bitWriteMem 4 (eaAbs8 abs8) (invertBit imm3) s

/-- BNOT Rn,Rd (R345). -/
def execBnotRnRd (rn : R8) (rd : R8) (s : State) : Result :=
  bitWriteReg 2 rd (invertBit (s.bitNumber rn)) s

/-- BNOT Rn,@ERd (R345). -/
def execBnotRnAtERd (rn : R8) (erd : ERn) (s : State) : Result :=
  bitWriteMem 4 (s.eaAt erd) (invertBit (s.bitNumber rn)) s

/-- BNOT Rn,@aa:8 (R345). -/
def execBnotRnAbs8 (rn : R8) (abs8 : Byte) (s : State) : Result :=
  bitWriteMem 4 (eaAbs8 abs8) (invertBit (s.bitNumber rn)) s

/-- BTST #xx:3,Rd (R346). -/
def execBtstImm3Rd (imm3 : BitVec 3) (rd : R8) (s : State) : Result :=
  goNext 2 (s.withCcr (bitTest imm3 s.ccr (s.reg8 rd)))

/-- BTST #xx:3,@ERd (R346). -/
def execBtstImm3AtERd (imm3 : BitVec 3) (erd : ERn) (s : State) : Result :=
  bitReadMem 4 (s.eaAt erd) (bitTest imm3) s

/-- BTST #xx:3,@aa:8 (R346). -/
def execBtstImm3Abs8 (imm3 : BitVec 3) (abs8 : Byte) (s : State) : Result :=
  bitReadMem 4 (eaAbs8 abs8) (bitTest imm3) s

/-- BTST Rn,Rd (R346). -/
def execBtstRnRd (rn : R8) (rd : R8) (s : State) : Result :=
  goNext 2 (s.withCcr (bitTest (s.bitNumber rn) s.ccr (s.reg8 rd)))

/-- BTST Rn,@ERd (R346). -/
def execBtstRnAtERd (rn : R8) (erd : ERn) (s : State) : Result :=
  bitReadMem 4 (s.eaAt erd) (bitTest (s.bitNumber rn)) s

/-- BTST Rn,@aa:8 (R346). -/
def execBtstRnAbs8 (rn : R8) (abs8 : Byte) (s : State) : Result :=
  bitReadMem 4 (eaAbs8 abs8) (bitTest (s.bitNumber rn)) s

/-- BAND #xx:3,Rd (R347). -/
def execBandImm3Rd (imm3 : BitVec 3) (rd : R8) (s : State) : Result :=
  goNext 2 (s.withCcr (bitAnd imm3 s.ccr (s.reg8 rd)))

/-- BAND #xx:3,@ERd (R347). -/
def execBandImm3AtERd (imm3 : BitVec 3) (erd : ERn) (s : State) : Result :=
  bitReadMem 4 (s.eaAt erd) (bitAnd imm3) s

/-- BAND #xx:3,@aa:8 (R347). -/
def execBandImm3Abs8 (imm3 : BitVec 3) (abs8 : Byte) (s : State) : Result :=
  bitReadMem 4 (eaAbs8 abs8) (bitAnd imm3) s

/-- BIAND #xx:3,Rd (R348). -/
def execBiandImm3Rd (imm3 : BitVec 3) (rd : R8) (s : State) : Result :=
  goNext 2 (s.withCcr (bitIAnd imm3 s.ccr (s.reg8 rd)))

/-- BIAND #xx:3,@ERd (R348). -/
def execBiandImm3AtERd (imm3 : BitVec 3) (erd : ERn) (s : State) : Result :=
  bitReadMem 4 (s.eaAt erd) (bitIAnd imm3) s

/-- BIAND #xx:3,@aa:8 (R348). -/
def execBiandImm3Abs8 (imm3 : BitVec 3) (abs8 : Byte) (s : State) : Result :=
  bitReadMem 4 (eaAbs8 abs8) (bitIAnd imm3) s

/-- BOR #xx:3,Rd (R349). -/
def execBorImm3Rd (imm3 : BitVec 3) (rd : R8) (s : State) : Result :=
  goNext 2 (s.withCcr (bitOr imm3 s.ccr (s.reg8 rd)))

/-- BOR #xx:3,@ERd (R349). -/
def execBorImm3AtERd (imm3 : BitVec 3) (erd : ERn) (s : State) : Result :=
  bitReadMem 4 (s.eaAt erd) (bitOr imm3) s

/-- BOR #xx:3,@aa:8 (R349). -/
def execBorImm3Abs8 (imm3 : BitVec 3) (abs8 : Byte) (s : State) : Result :=
  bitReadMem 4 (eaAbs8 abs8) (bitOr imm3) s

/-- BIOR #xx:3,Rd (R350). -/
def execBiorImm3Rd (imm3 : BitVec 3) (rd : R8) (s : State) : Result :=
  goNext 2 (s.withCcr (bitIOr imm3 s.ccr (s.reg8 rd)))

/-- BIOR #xx:3,@ERd (R350). -/
def execBiorImm3AtERd (imm3 : BitVec 3) (erd : ERn) (s : State) : Result :=
  bitReadMem 4 (s.eaAt erd) (bitIOr imm3) s

/-- BIOR #xx:3,@aa:8 (R350). -/
def execBiorImm3Abs8 (imm3 : BitVec 3) (abs8 : Byte) (s : State) : Result :=
  bitReadMem 4 (eaAbs8 abs8) (bitIOr imm3) s

/-- BXOR #xx:3,Rd (R351). -/
def execBxorImm3Rd (imm3 : BitVec 3) (rd : R8) (s : State) : Result :=
  goNext 2 (s.withCcr (bitXor imm3 s.ccr (s.reg8 rd)))

/-- BXOR #xx:3,@ERd (R351). -/
def execBxorImm3AtERd (imm3 : BitVec 3) (erd : ERn) (s : State) : Result :=
  bitReadMem 4 (s.eaAt erd) (bitXor imm3) s

/-- BXOR #xx:3,@aa:8 (R351). -/
def execBxorImm3Abs8 (imm3 : BitVec 3) (abs8 : Byte) (s : State) : Result :=
  bitReadMem 4 (eaAbs8 abs8) (bitXor imm3) s

/-- BIXOR #xx:3,Rd (R352). -/
def execBixorImm3Rd (imm3 : BitVec 3) (rd : R8) (s : State) : Result :=
  goNext 2 (s.withCcr (bitIXor imm3 s.ccr (s.reg8 rd)))

/-- BIXOR #xx:3,@ERd (R352). -/
def execBixorImm3AtERd (imm3 : BitVec 3) (erd : ERn) (s : State) : Result :=
  bitReadMem 4 (s.eaAt erd) (bitIXor imm3) s

/-- BIXOR #xx:3,@aa:8 (R352). -/
def execBixorImm3Abs8 (imm3 : BitVec 3) (abs8 : Byte) (s : State) : Result :=
  bitReadMem 4 (eaAbs8 abs8) (bitIXor imm3) s

/-- BLD #xx:3,Rd (R353). -/
def execBldImm3Rd (imm3 : BitVec 3) (rd : R8) (s : State) : Result :=
  goNext 2 (s.withCcr (bitLoad imm3 s.ccr (s.reg8 rd)))

/-- BLD #xx:3,@ERd (R353). -/
def execBldImm3AtERd (imm3 : BitVec 3) (erd : ERn) (s : State) : Result :=
  bitReadMem 4 (s.eaAt erd) (bitLoad imm3) s

/-- BLD #xx:3,@aa:8 (R353). -/
def execBldImm3Abs8 (imm3 : BitVec 3) (abs8 : Byte) (s : State) : Result :=
  bitReadMem 4 (eaAbs8 abs8) (bitLoad imm3) s

/-- BILD #xx:3,Rd (R354). -/
def execBildImm3Rd (imm3 : BitVec 3) (rd : R8) (s : State) : Result :=
  goNext 2 (s.withCcr (bitILoad imm3 s.ccr (s.reg8 rd)))

/-- BILD #xx:3,@ERd (R354). -/
def execBildImm3AtERd (imm3 : BitVec 3) (erd : ERn) (s : State) : Result :=
  bitReadMem 4 (s.eaAt erd) (bitILoad imm3) s

/-- BILD #xx:3,@aa:8 (R354). -/
def execBildImm3Abs8 (imm3 : BitVec 3) (abs8 : Byte) (s : State) : Result :=
  bitReadMem 4 (eaAbs8 abs8) (bitILoad imm3) s

/-- BST #xx:3,Rd (R355). -/
def execBstImm3Rd (imm3 : BitVec 3) (rd : R8) (s : State) : Result :=
  bitWriteReg 2 rd (storeBit imm3 (s.flag .c)) s

/-- BST #xx:3,@ERd (R355). -/
def execBstImm3AtERd (imm3 : BitVec 3) (erd : ERn) (s : State) : Result :=
  bitWriteMem 4 (s.eaAt erd) (storeBit imm3 (s.flag .c)) s

/-- BST #xx:3,@aa:8 (R355). -/
def execBstImm3Abs8 (imm3 : BitVec 3) (abs8 : Byte) (s : State) : Result :=
  bitWriteMem 4 (eaAbs8 abs8) (storeBit imm3 (s.flag .c)) s

/-- BIST #xx:3,Rd (R356). -/
def execBistImm3Rd (imm3 : BitVec 3) (rd : R8) (s : State) : Result :=
  bitWriteReg 2 rd (storeBit imm3 (!s.flag .c)) s

/-- BIST #xx:3,@ERd (R356). -/
def execBistImm3AtERd (imm3 : BitVec 3) (erd : ERn) (s : State) : Result :=
  bitWriteMem 4 (s.eaAt erd) (storeBit imm3 (!s.flag .c)) s

/-- BIST #xx:3,@aa:8 (R356). -/
def execBistImm3Abs8 (imm3 : BitVec 3) (abs8 : Byte) (s : State) : Result :=
  bitWriteMem 4 (eaAbs8 abs8) (storeBit imm3 (!s.flag .c)) s

end Sys2Proof.Machine
end

