-- ==== Sys2Proof/Machine/BlockTransfer.lean ====
section
/-! DEFINITION. The meanings of EEPMOV.B and EEPMOV.W (46_block_transfer R490 to R495). -/

namespace Sys2Proof.Machine

/-- R4L, the count of EEPMOV.B. -/
abbrev r4l : R8 := ⟨.er4, .l⟩

/-- R4, the count of EEPMOV.W. -/
abbrev r4 : R16 := ⟨.er4, .r⟩

/-- The two dummy reads, of the bytes at ER5 and at ER6, made whatever the count is (R494). -/
def dummyReads (s : State) (k : State → Result) : Result :=
  load8 s (s.eaAt .er5) fun _ s => load8 s (s.eaAt .er6) fun _ s => k s

/-- One byte from @ER5 to @ER6, both addresses then incremented as 32-bit values (R490, R495). -/
def transferByte (s : State) (k : State → Result) : Result :=
  load8 s (s.eaAt .er5) fun b s => store8 s (s.eaAt .er6) b fun s =>
    k ((s.setEr .er5 (s.er .er5 + 1)).setEr .er6 (s.er .er6 + 1))

/-- EEPMOV.B with that many bytes left (R490): no interrupt is sampled. The next word is fetched last (R572). -/
def eepmovLoopB : Nat → State → Result
  | 0, s => goNext 4 s
  | n + 1, s => transferByte s fun s => eepmovLoopB n (s.setReg8 r4l (s.reg8 r4l - 1))

/-- NMI is requested once that many bytes of this EEPMOV.W are transferred (R493, D24). -/
def Env.nmiAfter (e : Env) (done : Nat) : Bool :=
  e.nmi.isSome ||
    match e.nmiDuring with
    | some a => decide (a.afterBytes ≤ done)
    | none => false

/-- The NMI that cut an EEPMOV.W short is taken at its end (R493): one that was pending as it began is remembered, like
one that arrived in it, so that the next sample of the inputs has it. -/
def Env.rememberNmi (e : Env) : Env :=
  match e.nmi with
  | some v => { e with nmiDuring := some ⟨0, v⟩ }
  | none => e

/-- EEPMOV.W with that many bytes left and `done` transferred (R491): cut short after a completed byte when NMI is
requested and R4 is not 0; PC is next_pc in every case (R492). -/
def eepmovLoopW : Nat → Nat → State → Result
  | 0, _, s => goNext 4 s
  | n + 1, done, s => transferByte s fun s1 =>
    let s2 := s1.setReg16 r4 (s1.reg16 r4 - 1)
    if s2.env.nmiAfter (done + 1) ∧ s2.reg16 r4 ≠ 0 then goNext 4 { s2 with env := s2.env.rememberNmi }
    else eepmovLoopW n (done + 1) s2

/-- EEPMOV.B (R490). -/
def execEepmovB (s : State) : Result :=
  dummyReads s fun s => eepmovLoopB (s.reg8 r4l).toNat s

/-- EEPMOV.W (R491). -/
def execEepmovW (s : State) : Result :=
  dummyReads s fun s => eepmovLoopW (s.reg16 r4).toNat 0 s

end Sys2Proof.Machine
end

