-- ==== Sys2Proof/Machine/Branch.lean ====
section
/-! DEFINITION. The meanings of the branch instructions (44_branch R400 to R414). -/

namespace Sys2Proof.Machine

/-- The conditions of Bcc in the order of the field cc (R403). -/
inductive Cond where
  | ra | rn | hi | ls | cc | cs | ne | eq | vc | vs | pl | mi | ge | lt | gt | le
  deriving DecidableEq, Repr

/-- `cond(cc)` (R403). -/
def condHolds (x : Cond) (ccr : Byte) : Bool :=
  let c := ccrGet ccr .c
  let z := ccrGet ccr .z
  let n := ccrGet ccr .n
  let v := ccrGet ccr .v
  match x with
  | .ra => true
  | .rn => false
  | .hi => !(c || z)
  | .ls => c || z
  | .cc => !c
  | .cs => c
  | .ne => !z
  | .eq => z
  | .vc => !v
  | .vs => v
  | .pl => !n
  | .mi => n
  | .ge => !(n ^^ v)
  | .lt => n ^^ v
  | .gt => !(z || (n ^^ v))
  | .le => z || (n ^^ v)

/-- Bcc d:8 (R401): the next word is fetched, then the word at next_pc + disp (20_memory R86); the condition decides
which of the two executes next, and where. -/
def branchShort (x : Cond) (disp : Addr) (s : State) : Result :=
  let next := s.nextPc 2
  let target := s.loadPc (next + disp)
  readWord .prefetch s next fun a s => readWord .prefetch s target fun b s =>
    .next (if condHolds x s.ccr then { s with pc := target, pf := b } else { s with pc := next, pf := a })

/-- Bcc d:16 (R402): the word at next_pc + disp is fetched, whether the branch is taken or not (20_memory R86). When it is
not, the next word is fetched as well; no source prints where, a draw decides which comes first. Assumption 8. -/
def branchLong (x : Cond) (disp : Addr) (s : State) : Result :=
  let target := s.loadPc (s.nextPc 4 + disp)
  if condHolds x s.ccr then fetchAt s target .next
  else drawn (s.free1 0) (readWord .prefetch s target fun _ s => goNext 4 s)
    (advance 4 s fun s => readWord .prefetch s target fun _ s => .next s)

/-- A call: the target's first word is fetched, then `ret` is pushed (R407 to R410). -/
def call (ret target : Addr) (s : State) : Result := fetchAt s (s.loadPc target) fun s => pushPc s ret .next

/-- JSR @@aa:8 after the fetch of the next word: the pointer is read, `ret` pushed, then the target's first word fetched
(R411). -/
def callIndirect (ret pointer : Addr) (s : State) : Result :=
  loadPointer s pointer fun target s => pushPc s ret (goTo target)

/-- BRA d:8 (R401). -/
def execBraD8 (disp8 : Byte) (s : State) : Result :=
  branchShort .ra (disp8To24 disp8) s

/-- BRN d:8 (R401). -/
def execBrnD8 (disp8 : Byte) (s : State) : Result :=
  branchShort .rn (disp8To24 disp8) s

/-- BHI d:8 (R401). -/
def execBhiD8 (disp8 : Byte) (s : State) : Result :=
  branchShort .hi (disp8To24 disp8) s

/-- BLS d:8 (R401). -/
def execBlsD8 (disp8 : Byte) (s : State) : Result :=
  branchShort .ls (disp8To24 disp8) s

/-- BCC d:8 (R401). -/
def execBccD8 (disp8 : Byte) (s : State) : Result :=
  branchShort .cc (disp8To24 disp8) s

/-- BCS d:8 (R401). -/
def execBcsD8 (disp8 : Byte) (s : State) : Result :=
  branchShort .cs (disp8To24 disp8) s

/-- BNE d:8 (R401). -/
def execBneD8 (disp8 : Byte) (s : State) : Result :=
  branchShort .ne (disp8To24 disp8) s

/-- BEQ d:8 (R401). -/
def execBeqD8 (disp8 : Byte) (s : State) : Result :=
  branchShort .eq (disp8To24 disp8) s

/-- BVC d:8 (R401). -/
def execBvcD8 (disp8 : Byte) (s : State) : Result :=
  branchShort .vc (disp8To24 disp8) s

/-- BVS d:8 (R401). -/
def execBvsD8 (disp8 : Byte) (s : State) : Result :=
  branchShort .vs (disp8To24 disp8) s

/-- BPL d:8 (R401). -/
def execBplD8 (disp8 : Byte) (s : State) : Result :=
  branchShort .pl (disp8To24 disp8) s

/-- BMI d:8 (R401). -/
def execBmiD8 (disp8 : Byte) (s : State) : Result :=
  branchShort .mi (disp8To24 disp8) s

/-- BGE d:8 (R401). -/
def execBgeD8 (disp8 : Byte) (s : State) : Result :=
  branchShort .ge (disp8To24 disp8) s

/-- BLT d:8 (R401). -/
def execBltD8 (disp8 : Byte) (s : State) : Result :=
  branchShort .lt (disp8To24 disp8) s

/-- BGT d:8 (R401). -/
def execBgtD8 (disp8 : Byte) (s : State) : Result :=
  branchShort .gt (disp8To24 disp8) s

/-- BLE d:8 (R401). -/
def execBleD8 (disp8 : Byte) (s : State) : Result :=
  branchShort .le (disp8To24 disp8) s

/-- BRA d:16 (R402). -/
def execBraD16 (disp16 : Word) (s : State) : Result :=
  branchLong .ra (disp16To24 disp16) s

/-- BRN d:16 (R402). -/
def execBrnD16 (disp16 : Word) (s : State) : Result :=
  branchLong .rn (disp16To24 disp16) s

/-- BHI d:16 (R402). -/
def execBhiD16 (disp16 : Word) (s : State) : Result :=
  branchLong .hi (disp16To24 disp16) s

/-- BLS d:16 (R402). -/
def execBlsD16 (disp16 : Word) (s : State) : Result :=
  branchLong .ls (disp16To24 disp16) s

/-- BCC d:16 (R402). -/
def execBccD16 (disp16 : Word) (s : State) : Result :=
  branchLong .cc (disp16To24 disp16) s

/-- BCS d:16 (R402). -/
def execBcsD16 (disp16 : Word) (s : State) : Result :=
  branchLong .cs (disp16To24 disp16) s

/-- BNE d:16 (R402). -/
def execBneD16 (disp16 : Word) (s : State) : Result :=
  branchLong .ne (disp16To24 disp16) s

/-- BEQ d:16 (R402). -/
def execBeqD16 (disp16 : Word) (s : State) : Result :=
  branchLong .eq (disp16To24 disp16) s

/-- BVC d:16 (R402). -/
def execBvcD16 (disp16 : Word) (s : State) : Result :=
  branchLong .vc (disp16To24 disp16) s

/-- BVS d:16 (R402). -/
def execBvsD16 (disp16 : Word) (s : State) : Result :=
  branchLong .vs (disp16To24 disp16) s

/-- BPL d:16 (R402). -/
def execBplD16 (disp16 : Word) (s : State) : Result :=
  branchLong .pl (disp16To24 disp16) s

/-- BMI d:16 (R402). -/
def execBmiD16 (disp16 : Word) (s : State) : Result :=
  branchLong .mi (disp16To24 disp16) s

/-- BGE d:16 (R402). -/
def execBgeD16 (disp16 : Word) (s : State) : Result :=
  branchLong .ge (disp16To24 disp16) s

/-- BLT d:16 (R402). -/
def execBltD16 (disp16 : Word) (s : State) : Result :=
  branchLong .lt (disp16To24 disp16) s

/-- BGT d:16 (R402). -/
def execBgtD16 (disp16 : Word) (s : State) : Result :=
  branchLong .gt (disp16To24 disp16) s

/-- BLE d:16 (R402). -/
def execBleD16 (disp16 : Word) (s : State) : Result :=
  branchLong .le (disp16To24 disp16) s

/-- JMP @ERn (R404). -/
def execJmpAtERn (ern : ERn) (s : State) : Result :=
  discardNext s (goTo (s.eaAt ern))

/-- JMP @aa:24 (R405). -/
def execJmpAbs24 (abs24 : Addr) (s : State) : Result :=
  goTo abs24 s

/-- JMP @@aa:8 (R406). -/
def execJmpInd8 (abs8 : Byte) (s : State) : Result :=
  discardNext s fun s => loadPointer s (eaPointer abs8) goTo

/-- BSR d:8 (R407). -/
def execBsrD8 (disp8 : Byte) (s : State) : Result :=
  discardNext s (call (s.nextPc 2) (s.nextPc 2 + disp8To24 disp8))

/-- BSR d:16 (R408). -/
def execBsrD16 (disp16 : Word) (s : State) : Result :=
  call (s.nextPc 4) (s.nextPc 4 + disp16To24 disp16) s

/-- JSR @ERn (R409). -/
def execJsrAtERn (ern : ERn) (s : State) : Result :=
  discardNext s (call (s.nextPc 2) (s.eaAt ern))

/-- JSR @aa:24 (R410). -/
def execJsrAbs24 (abs24 : Addr) (s : State) : Result :=
  call (s.nextPc 4) abs24 s

/-- JSR @@aa:8 (R411). -/
def execJsrInd8 (abs8 : Byte) (s : State) : Result :=
  discardNext s (callIndirect (s.nextPc 2) (eaPointer abs8))

/-- RTS (R412). -/
def execRts (s : State) : Result :=
  discardNext s fun s => popPc s goTo

end Sys2Proof.Machine
end

