-- ==== Sys2Proof/Machine/Logic.lean ====
section
/-! DEFINITION. The meanings of AND, OR, XOR and NOT: bitwise, with the flags of `mov_flags` (42_logic_shift R280 to
R301). -/

namespace Sys2Proof.Machine

/-- AND.B #xx:8,Rd (R281). -/
def execAndBImm8Rd (imm8 : Byte) (rd : R8) (s : State) : Result :=
  goNext 2 (s.move8 rd ((s.reg8 rd) &&& imm8))

/-- AND.B Rs,Rd (R282). -/
def execAndBRsRd (rs : R8) (rd : R8) (s : State) : Result :=
  goNext 2 (s.move8 rd ((s.reg8 rd) &&& (s.reg8 rs)))

/-- AND.W #xx:16,Rd (R283). -/
def execAndWImm16Rd (imm16 : Word) (rd : R16) (s : State) : Result :=
  goNext 4 (s.move16 rd ((s.reg16 rd) &&& imm16))

/-- AND.W Rs,Rd (R284). -/
def execAndWRsRd (rs : R16) (rd : R16) (s : State) : Result :=
  goNext 2 (s.move16 rd ((s.reg16 rd) &&& (s.reg16 rs)))

/-- AND.L #xx:32,ERd (R285). -/
def execAndLImm32ERd (imm32 : Long) (erd : ERn) (s : State) : Result :=
  goNext 6 (s.move32 erd ((s.er erd) &&& imm32))

/-- AND.L ERs,ERd (R286). -/
def execAndLERsERd (ers : ERn) (erd : ERn) (s : State) : Result :=
  goNext 4 (s.move32 erd ((s.er erd) &&& (s.er ers)))

/-- OR.B #xx:8,Rd (R287). -/
def execOrBImm8Rd (imm8 : Byte) (rd : R8) (s : State) : Result :=
  goNext 2 (s.move8 rd ((s.reg8 rd) ||| imm8))

/-- OR.B Rs,Rd (R288). -/
def execOrBRsRd (rs : R8) (rd : R8) (s : State) : Result :=
  goNext 2 (s.move8 rd ((s.reg8 rd) ||| (s.reg8 rs)))

/-- OR.W #xx:16,Rd (R289). -/
def execOrWImm16Rd (imm16 : Word) (rd : R16) (s : State) : Result :=
  goNext 4 (s.move16 rd ((s.reg16 rd) ||| imm16))

/-- OR.W Rs,Rd (R290). -/
def execOrWRsRd (rs : R16) (rd : R16) (s : State) : Result :=
  goNext 2 (s.move16 rd ((s.reg16 rd) ||| (s.reg16 rs)))

/-- OR.L #xx:32,ERd (R291). -/
def execOrLImm32ERd (imm32 : Long) (erd : ERn) (s : State) : Result :=
  goNext 6 (s.move32 erd ((s.er erd) ||| imm32))

/-- OR.L ERs,ERd (R292). -/
def execOrLERsERd (ers : ERn) (erd : ERn) (s : State) : Result :=
  goNext 4 (s.move32 erd ((s.er erd) ||| (s.er ers)))

/-- XOR.B #xx:8,Rd (R293). -/
def execXorBImm8Rd (imm8 : Byte) (rd : R8) (s : State) : Result :=
  goNext 2 (s.move8 rd ((s.reg8 rd) ^^^ imm8))

/-- XOR.B Rs,Rd (R294). -/
def execXorBRsRd (rs : R8) (rd : R8) (s : State) : Result :=
  goNext 2 (s.move8 rd ((s.reg8 rd) ^^^ (s.reg8 rs)))

/-- XOR.W #xx:16,Rd (R295). -/
def execXorWImm16Rd (imm16 : Word) (rd : R16) (s : State) : Result :=
  goNext 4 (s.move16 rd ((s.reg16 rd) ^^^ imm16))

/-- XOR.W Rs,Rd (R296). -/
def execXorWRsRd (rs : R16) (rd : R16) (s : State) : Result :=
  goNext 2 (s.move16 rd ((s.reg16 rd) ^^^ (s.reg16 rs)))

/-- XOR.L #xx:32,ERd (R297). -/
def execXorLImm32ERd (imm32 : Long) (erd : ERn) (s : State) : Result :=
  goNext 6 (s.move32 erd ((s.er erd) ^^^ imm32))

/-- XOR.L ERs,ERd (R298). -/
def execXorLERsERd (ers : ERn) (erd : ERn) (s : State) : Result :=
  goNext 4 (s.move32 erd ((s.er erd) ^^^ (s.er ers)))

/-- NOT.B Rd (R299). -/
def execNotBRd (rd : R8) (s : State) : Result :=
  goNext 2 (s.move8 rd (~~~(s.reg8 rd)))

/-- NOT.W Rd (R300). -/
def execNotWRd (rd : R16) (s : State) : Result :=
  goNext 2 (s.move16 rd (~~~(s.reg16 rd)))

/-- NOT.L ERd (R301). -/
def execNotLERd (erd : ERn) (s : State) : Result :=
  goNext 2 (s.move32 erd (~~~(s.er erd)))

end Sys2Proof.Machine
end

