-- ==== Sys2Proof/Machine/Shift.lean ====
section
/-! DEFINITION. The meanings of the shifts and rotates, all by one bit (42_logic_shift R302 to R326). -/

namespace Sys2Proof.Machine

/-- What a shift or rotate gives (R302): the result, V after, C after. -/
structure Shifted (w : Nat) where
  r : BitVec w
  v : Bool
  c : Bool
  deriving DecidableEq, Repr

/-- A bit as a value with that bit lowest. -/
def lowBit (w : Nat) (b : Bool) : BitVec w := BitVec.ofNat w (if b then 1 else 0)

/-- A bit as a value with that bit highest. -/
def highBit (w : Nat) (b : Bool) : BitVec w := lowBit w b <<< (w - 1)

/-- SHAL: V is set when the sign bit changes. -/
def shal {w : Nat} (d : BitVec w) : Shifted w := ⟨d <<< 1, d.msb ^^ d.getLsbD (w - 2), d.msb⟩

/-- SHLL. -/
def shll {w : Nat} (d : BitVec w) : Shifted w := ⟨d <<< 1, false, d.msb⟩

/-- SHAR: the top bit stays. -/
def shar {w : Nat} (d : BitVec w) : Shifted w := ⟨(d >>> 1) ||| highBit w d.msb, false, d.getLsbD 0⟩

/-- SHLR. -/
def shlr {w : Nat} (d : BitVec w) : Shifted w := ⟨d >>> 1, false, d.getLsbD 0⟩

/-- ROTL. -/
def rotl {w : Nat} (d : BitVec w) : Shifted w := ⟨(d <<< 1) ||| lowBit w d.msb, false, d.msb⟩

/-- ROTR. -/
def rotr {w : Nat} (d : BitVec w) : Shifted w := ⟨(d >>> 1) ||| highBit w (d.getLsbD 0), false, d.getLsbD 0⟩

/-- ROTXL, with C before. -/
def rotxl {w : Nat} (d : BitVec w) (c : Bool) : Shifted w := ⟨(d <<< 1) ||| lowBit w c, false, d.msb⟩

/-- ROTXR, with C before. -/
def rotxr {w : Nat} (d : BitVec w) (c : Bool) : Shifted w := ⟨(d >>> 1) ||| highBit w c, false, d.getLsbD 0⟩

/-- The result into Reg8(rd), with its flags. -/
def shift8 (len : Addr) (rd : R8) (x : Shifted 8) (s : State) : Result :=
  goNext len ((s.setReg8 rd x.r).withCcr (shiftFlags s.ccr x.r x.v x.c))

/-- The result into Reg16(rd). -/
def shift16 (len : Addr) (rd : R16) (x : Shifted 16) (s : State) : Result :=
  goNext len ((s.setReg16 rd x.r).withCcr (shiftFlags s.ccr x.r x.v x.c))

/-- The result into ER[erd]. -/
def shift32 (len : Addr) (erd : ERn) (x : Shifted 32) (s : State) : Result :=
  goNext len ((s.setEr erd x.r).withCcr (shiftFlags s.ccr x.r x.v x.c))

/-- SHAL.B Rd (R303). -/
def execShalBRd (rd : R8) (s : State) : Result :=
  shift8 2 rd (shal (s.reg8 rd)) s

/-- SHAL.W Rd (R304). -/
def execShalWRd (rd : R16) (s : State) : Result :=
  shift16 2 rd (shal (s.reg16 rd)) s

/-- SHAL.L ERd (R305). -/
def execShalLERd (erd : ERn) (s : State) : Result :=
  shift32 2 erd (shal (s.er erd)) s

/-- SHAR.B Rd (R306). -/
def execSharBRd (rd : R8) (s : State) : Result :=
  shift8 2 rd (shar (s.reg8 rd)) s

/-- SHAR.W Rd (R307). -/
def execSharWRd (rd : R16) (s : State) : Result :=
  shift16 2 rd (shar (s.reg16 rd)) s

/-- SHAR.L ERd (R308). -/
def execSharLERd (erd : ERn) (s : State) : Result :=
  shift32 2 erd (shar (s.er erd)) s

/-- SHLL.B Rd (R309). -/
def execShllBRd (rd : R8) (s : State) : Result :=
  shift8 2 rd (shll (s.reg8 rd)) s

/-- SHLL.W Rd (R310). -/
def execShllWRd (rd : R16) (s : State) : Result :=
  shift16 2 rd (shll (s.reg16 rd)) s

/-- SHLL.L ERd (R311). -/
def execShllLERd (erd : ERn) (s : State) : Result :=
  shift32 2 erd (shll (s.er erd)) s

/-- SHLR.B Rd (R312). -/
def execShlrBRd (rd : R8) (s : State) : Result :=
  shift8 2 rd (shlr (s.reg8 rd)) s

/-- SHLR.W Rd (R313). -/
def execShlrWRd (rd : R16) (s : State) : Result :=
  shift16 2 rd (shlr (s.reg16 rd)) s

/-- SHLR.L ERd (R314). -/
def execShlrLERd (erd : ERn) (s : State) : Result :=
  shift32 2 erd (shlr (s.er erd)) s

/-- ROTL.B Rd (R315). -/
def execRotlBRd (rd : R8) (s : State) : Result :=
  shift8 2 rd (rotl (s.reg8 rd)) s

/-- ROTL.W Rd (R316). -/
def execRotlWRd (rd : R16) (s : State) : Result :=
  shift16 2 rd (rotl (s.reg16 rd)) s

/-- ROTL.L ERd (R317). -/
def execRotlLERd (erd : ERn) (s : State) : Result :=
  shift32 2 erd (rotl (s.er erd)) s

/-- ROTR.B Rd (R318). -/
def execRotrBRd (rd : R8) (s : State) : Result :=
  shift8 2 rd (rotr (s.reg8 rd)) s

/-- ROTR.W Rd (R319). -/
def execRotrWRd (rd : R16) (s : State) : Result :=
  shift16 2 rd (rotr (s.reg16 rd)) s

/-- ROTR.L ERd (R320). -/
def execRotrLERd (erd : ERn) (s : State) : Result :=
  shift32 2 erd (rotr (s.er erd)) s

/-- ROTXL.B Rd (R321). -/
def execRotxlBRd (rd : R8) (s : State) : Result :=
  shift8 2 rd (rotxl (s.reg8 rd) (s.flag .c)) s

/-- ROTXL.W Rd (R322). -/
def execRotxlWRd (rd : R16) (s : State) : Result :=
  shift16 2 rd (rotxl (s.reg16 rd) (s.flag .c)) s

/-- ROTXL.L ERd (R323). -/
def execRotxlLERd (erd : ERn) (s : State) : Result :=
  shift32 2 erd (rotxl (s.er erd) (s.flag .c)) s

/-- ROTXR.B Rd (R324). -/
def execRotxrBRd (rd : R8) (s : State) : Result :=
  shift8 2 rd (rotxr (s.reg8 rd) (s.flag .c)) s

/-- ROTXR.W Rd (R325). -/
def execRotxrWRd (rd : R16) (s : State) : Result :=
  shift16 2 rd (rotxr (s.reg16 rd) (s.flag .c)) s

/-- ROTXR.L ERd (R326). -/
def execRotxrLERd (erd : ERn) (s : State) : Result :=
  shift32 2 erd (rotxr (s.er erd) (s.flag .c)) s

end Sys2Proof.Machine
end

