-- ==== Sys2Proof/Machine/SystemControl.lean ====
section
/-! DEFINITION. The meanings of the system-control instructions (45_system_control R440 to R470). -/

namespace Sys2Proof.Machine

/-- CCR ← v by LDC, ANDC, ORC, XORC: all eight bits, and no interrupt is detected at the end (R440). -/
def State.loadCcr (s : State) (v : Byte) : State := { s with ccr := v, intInhibit := true }

/-- LDC.W: CCR is the byte at the even address; the other byte is ignored (R443 to R448, D16). -/
def ldcWord (len ea : Addr) (s : State) : Result :=
  advance len s fun s => load16 s ea fun w s => .next (s.loadCcr (w.extractLsb' 8 8))

/-- LDC.W @ERs+: ERs moves by 2 (R446). -/
def ldcPost (len : Addr) (ers : ERn) (s : State) : Result :=
  advance len s fun s => load16 s (s.eaAt ers) fun w s =>
    .next ((s.setEr ers (s.er ers + 2)).loadCcr (w.extractLsb' 8 8))

/-- STC.W: CCR at the even address, a draw at the odd one; no flag changes (R450 to R455, D16). -/
def stcWord (len ea : Addr) (s : State) : Result :=
  advance len s fun s' => store16 s' ea (s.ccr ++ s.free8 0) .next

/-- STC.W @-ERd: ERd moves by 2 first (R453). -/
def stcPre (len : Addr) (erd : ERn) (s : State) : Result :=
  let s' := s.setEr erd (s.er erd - 2)
  stcWord len (s'.eaAt erd) s'

/-- LDC #xx:8,CCR (R441). -/
def execLdcImm8Ccr (imm8 : Byte) (s : State) : Result :=
  goNext 2 (s.loadCcr imm8)

/-- LDC Rs,CCR (R442). -/
def execLdcRsCcr (rs : R8) (s : State) : Result :=
  goNext 2 (s.loadCcr (s.reg8 rs))

/-- LDC @ERs,CCR (R443). -/
def execLdcAtERsCcr (ers : ERn) (s : State) : Result :=
  ldcWord 4 (s.eaAt ers) s

/-- LDC @(d:16,ERs),CCR (R444). -/
def execLdcD16ERsCcr (disp16 : Word) (ers : ERn) (s : State) : Result :=
  ldcWord 6 (s.eaD16 disp16 ers) s

/-- LDC @(d:24,ERs),CCR (R445). -/
def execLdcD24ERsCcr (disp24 : Addr) (ers : ERn) (s : State) : Result :=
  ldcWord 10 (s.eaD24 disp24 ers) s

/-- LDC @ERs+,CCR (R446). -/
def execLdcPostERsCcr (ers : ERn) (s : State) : Result :=
  ldcPost 4 ers s

/-- LDC @aa:16,CCR (R447). -/
def execLdcAbs16Ccr (abs16 : Word) (s : State) : Result :=
  ldcWord 6 (eaAbs16 abs16) s

/-- LDC @aa:24,CCR (R448). -/
def execLdcAbs24Ccr (abs24 : Addr) (s : State) : Result :=
  ldcWord 8 abs24 s

/-- STC CCR,Rd (R449). -/
def execStcCcrRd (rd : R8) (s : State) : Result :=
  goNext 2 (s.setReg8 rd s.ccr)

/-- STC CCR,@ERd (R450). -/
def execStcCcrAtERd (erd : ERn) (s : State) : Result :=
  stcWord 4 (s.eaAt erd) s

/-- STC CCR,@(d:16,ERd) (R451). -/
def execStcCcrD16ERd (disp16 : Word) (erd : ERn) (s : State) : Result :=
  stcWord 6 (s.eaD16 disp16 erd) s

/-- STC CCR,@(d:24,ERd) (R452). -/
def execStcCcrD24ERd (disp24 : Addr) (erd : ERn) (s : State) : Result :=
  stcWord 10 (s.eaD24 disp24 erd) s

/-- STC CCR,@-ERd (R453). -/
def execStcCcrPreERd (erd : ERn) (s : State) : Result :=
  stcPre 4 erd s

/-- STC CCR,@aa:16 (R454). -/
def execStcCcrAbs16 (abs16 : Word) (s : State) : Result :=
  stcWord 6 (eaAbs16 abs16) s

/-- STC CCR,@aa:24 (R455). -/
def execStcCcrAbs24 (abs24 : Addr) (s : State) : Result :=
  stcWord 8 abs24 s

/-- ANDC #xx:8,CCR (R456). -/
def execAndcImm8Ccr (imm8 : Byte) (s : State) : Result :=
  goNext 2 (s.loadCcr (s.ccr &&& imm8))

/-- ORC #xx:8,CCR (R457). -/
def execOrcImm8Ccr (imm8 : Byte) (s : State) : Result :=
  goNext 2 (s.loadCcr (s.ccr ||| imm8))

/-- XORC #xx:8,CCR (R458). -/
def execXorcImm8Ccr (imm8 : Byte) (s : State) : Result :=
  goNext 2 (s.loadCcr (s.ccr ^^^ imm8))

/-- NOP (R459). -/
def execNop (s : State) : Result :=
  goNext 2 s

/-- RTE (R460). -/
def execRte (s : State) : Result :=
  discardNext s exceptionReturn

/-- TRAPA #x:2 (R462). -/
def execTrapaImm2 (imm2 : BitVec 2) (s : State) : Result :=
  discardNext s fun s => exceptionEntry s (s.nextPc 2) (8 + imm2.toNat)

/-- SLEEP (R470). -/
def execSleep (s : State) : Result :=
  goNext 2 { s with proc := if s.env.ssby then .softwareStandby else .sleep }

end Sys2Proof.Machine
end

