-- ==== Sys2Proof/Machine/Dispatch.lean ====
section
/-! DEFINITION. One arm per constructor of Instr, each a direct call of the instruction's meaning. -/

namespace Sys2Proof.Machine

def exec (i : Instr) (s : State) : Host.Outcome State Fault Refusal :=
  match i with
  -- DataTransfer
  | .movBRsRd rs rd => Sys2Proof.Machine.execMovBRsRd rs rd s
  | .movWRsRd rs rd => Sys2Proof.Machine.execMovWRsRd rs rd s
  | .movLERsERd ers erd => Sys2Proof.Machine.execMovLERsERd ers erd s
  | .movBImm8Rd imm8 rd => Sys2Proof.Machine.execMovBImm8Rd imm8 rd s
  | .movBAtERsRd ers rd => Sys2Proof.Machine.execMovBAtERsRd ers rd s
  | .movBD16ERsRd disp16 ers rd => Sys2Proof.Machine.execMovBD16ERsRd disp16 ers rd s
  | .movBD24ERsRd disp24 ers rd => Sys2Proof.Machine.execMovBD24ERsRd disp24 ers rd s
  | .movBPostERsRd ers rd => Sys2Proof.Machine.execMovBPostERsRd ers rd s
  | .movBAbs8Rd abs8 rd => Sys2Proof.Machine.execMovBAbs8Rd abs8 rd s
  | .movBAbs16Rd abs16 rd => Sys2Proof.Machine.execMovBAbs16Rd abs16 rd s
  | .movBAbs24Rd abs24 rd => Sys2Proof.Machine.execMovBAbs24Rd abs24 rd s
  | .movWImm16Rd imm16 rd => Sys2Proof.Machine.execMovWImm16Rd imm16 rd s
  | .movWAtERsRd ers rd => Sys2Proof.Machine.execMovWAtERsRd ers rd s
  | .movWD16ERsRd disp16 ers rd => Sys2Proof.Machine.execMovWD16ERsRd disp16 ers rd s
  | .movWD24ERsRd disp24 ers rd => Sys2Proof.Machine.execMovWD24ERsRd disp24 ers rd s
  | .movWPostERsRd ers rd => Sys2Proof.Machine.execMovWPostERsRd ers rd s
  | .movWAbs16Rd abs16 rd => Sys2Proof.Machine.execMovWAbs16Rd abs16 rd s
  | .movWAbs24Rd abs24 rd => Sys2Proof.Machine.execMovWAbs24Rd abs24 rd s
  | .movLImm32ERd imm32 erd => Sys2Proof.Machine.execMovLImm32ERd imm32 erd s
  | .movLAtERsERd ers erd => Sys2Proof.Machine.execMovLAtERsERd ers erd s
  | .movLD16ERsERd disp16 ers erd => Sys2Proof.Machine.execMovLD16ERsERd disp16 ers erd s
  | .movLD24ERsERd disp24 ers erd => Sys2Proof.Machine.execMovLD24ERsERd disp24 ers erd s
  | .movLPostERsERd ers erd => Sys2Proof.Machine.execMovLPostERsERd ers erd s
  | .movLAbs16ERd abs16 erd => Sys2Proof.Machine.execMovLAbs16ERd abs16 erd s
  | .movLAbs24ERd abs24 erd => Sys2Proof.Machine.execMovLAbs24ERd abs24 erd s
  | .movBRsAtERd rs erd => Sys2Proof.Machine.execMovBRsAtERd rs erd s
  | .movBRsD16ERd rs disp16 erd => Sys2Proof.Machine.execMovBRsD16ERd rs disp16 erd s
  | .movBRsD24ERd rs disp24 erd => Sys2Proof.Machine.execMovBRsD24ERd rs disp24 erd s
  | .movBRsPreERd rs erd => Sys2Proof.Machine.execMovBRsPreERd rs erd s
  | .movBRsAbs8 rs abs8 => Sys2Proof.Machine.execMovBRsAbs8 rs abs8 s
  | .movBRsAbs16 rs abs16 => Sys2Proof.Machine.execMovBRsAbs16 rs abs16 s
  | .movBRsAbs24 rs abs24 => Sys2Proof.Machine.execMovBRsAbs24 rs abs24 s
  | .movWRsAtERd rs erd => Sys2Proof.Machine.execMovWRsAtERd rs erd s
  | .movWRsD16ERd rs disp16 erd => Sys2Proof.Machine.execMovWRsD16ERd rs disp16 erd s
  | .movWRsD24ERd rs disp24 erd => Sys2Proof.Machine.execMovWRsD24ERd rs disp24 erd s
  | .movWRsPreERd rs erd => Sys2Proof.Machine.execMovWRsPreERd rs erd s
  | .movWRsAbs16 rs abs16 => Sys2Proof.Machine.execMovWRsAbs16 rs abs16 s
  | .movWRsAbs24 rs abs24 => Sys2Proof.Machine.execMovWRsAbs24 rs abs24 s
  | .movLERsAtERd ers erd => Sys2Proof.Machine.execMovLERsAtERd ers erd s
  | .movLERsD16ERd ers disp16 erd => Sys2Proof.Machine.execMovLERsD16ERd ers disp16 erd s
  | .movLERsD24ERd ers disp24 erd => Sys2Proof.Machine.execMovLERsD24ERd ers disp24 erd s
  | .movLERsPreERd ers erd => Sys2Proof.Machine.execMovLERsPreERd ers erd s
  | .movLERsAbs16 ers abs16 => Sys2Proof.Machine.execMovLERsAbs16 ers abs16 s
  | .movLERsAbs24 ers abs24 => Sys2Proof.Machine.execMovLERsAbs24 ers abs24 s
  | .movfpeAbs16Rd abs16 rd => Sys2Proof.Machine.execMovfpeAbs16Rd abs16 rd s
  | .movtpeRsAbs16 rs abs16 => Sys2Proof.Machine.execMovtpeRsAbs16 rs abs16 s
  | .popWRn rn => Sys2Proof.Machine.execPopWRn rn s
  | .popLERn ern => Sys2Proof.Machine.execPopLERn ern s
  | .pushWRn rn => Sys2Proof.Machine.execPushWRn rn s
  | .pushLERn ern => Sys2Proof.Machine.execPushLERn ern s
  -- Arithmetic
  | .addBImm8Rd imm8 rd => Sys2Proof.Machine.execAddBImm8Rd imm8 rd s
  | .addBRsRd rs rd => Sys2Proof.Machine.execAddBRsRd rs rd s
  | .addWImm16Rd imm16 rd => Sys2Proof.Machine.execAddWImm16Rd imm16 rd s
  | .addWRsRd rs rd => Sys2Proof.Machine.execAddWRsRd rs rd s
  | .addLImm32ERd imm32 erd => Sys2Proof.Machine.execAddLImm32ERd imm32 erd s
  | .addLERsERd ers erd => Sys2Proof.Machine.execAddLERsERd ers erd s
  | .addsOneERd erd => Sys2Proof.Machine.execAddsOneERd erd s
  | .addsTwoERd erd => Sys2Proof.Machine.execAddsTwoERd erd s
  | .addsFourERd erd => Sys2Proof.Machine.execAddsFourERd erd s
  | .addxImm8Rd imm8 rd => Sys2Proof.Machine.execAddxImm8Rd imm8 rd s
  | .addxRsRd rs rd => Sys2Proof.Machine.execAddxRsRd rs rd s
  | .cmpBImm8Rd imm8 rd => Sys2Proof.Machine.execCmpBImm8Rd imm8 rd s
  | .cmpBRsRd rs rd => Sys2Proof.Machine.execCmpBRsRd rs rd s
  | .cmpWImm16Rd imm16 rd => Sys2Proof.Machine.execCmpWImm16Rd imm16 rd s
  | .cmpWRsRd rs rd => Sys2Proof.Machine.execCmpWRsRd rs rd s
  | .cmpLImm32ERd imm32 erd => Sys2Proof.Machine.execCmpLImm32ERd imm32 erd s
  | .cmpLERsERd ers erd => Sys2Proof.Machine.execCmpLERsERd ers erd s
  | .subBRsRd rs rd => Sys2Proof.Machine.execSubBRsRd rs rd s
  | .subWImm16Rd imm16 rd => Sys2Proof.Machine.execSubWImm16Rd imm16 rd s
  | .subWRsRd rs rd => Sys2Proof.Machine.execSubWRsRd rs rd s
  | .subLImm32ERd imm32 erd => Sys2Proof.Machine.execSubLImm32ERd imm32 erd s
  | .subLERsERd ers erd => Sys2Proof.Machine.execSubLERsERd ers erd s
  | .subsOneERd erd => Sys2Proof.Machine.execSubsOneERd erd s
  | .subsTwoERd erd => Sys2Proof.Machine.execSubsTwoERd erd s
  | .subsFourERd erd => Sys2Proof.Machine.execSubsFourERd erd s
  | .subxImm8Rd imm8 rd => Sys2Proof.Machine.execSubxImm8Rd imm8 rd s
  | .subxRsRd rs rd => Sys2Proof.Machine.execSubxRsRd rs rd s
  | .daaRd rd => Sys2Proof.Machine.execDaaRd rd s
  | .dasRd rd => Sys2Proof.Machine.execDasRd rd s
  | .incBRd rd => Sys2Proof.Machine.execIncBRd rd s
  | .incWOneRd rd => Sys2Proof.Machine.execIncWOneRd rd s
  | .incWTwoRd rd => Sys2Proof.Machine.execIncWTwoRd rd s
  | .incLOneERd erd => Sys2Proof.Machine.execIncLOneERd erd s
  | .incLTwoERd erd => Sys2Proof.Machine.execIncLTwoERd erd s
  | .decBRd rd => Sys2Proof.Machine.execDecBRd rd s
  | .decWOneRd rd => Sys2Proof.Machine.execDecWOneRd rd s
  | .decWTwoRd rd => Sys2Proof.Machine.execDecWTwoRd rd s
  | .decLOneERd erd => Sys2Proof.Machine.execDecLOneERd erd s
  | .decLTwoERd erd => Sys2Proof.Machine.execDecLTwoERd erd s
  | .negBRd rd => Sys2Proof.Machine.execNegBRd rd s
  | .negWRd rd => Sys2Proof.Machine.execNegWRd rd s
  | .negLERd erd => Sys2Proof.Machine.execNegLERd erd s
  | .extuWRd rd => Sys2Proof.Machine.execExtuWRd rd s
  | .extuLERd erd => Sys2Proof.Machine.execExtuLERd erd s
  | .extsWRd rd => Sys2Proof.Machine.execExtsWRd rd s
  | .extsLERd erd => Sys2Proof.Machine.execExtsLERd erd s
  | .mulxuBRsRd rs rd => Sys2Proof.Machine.execMulxuBRsRd rs rd s
  | .mulxuWRsERd rs erd => Sys2Proof.Machine.execMulxuWRsERd rs erd s
  | .mulxsBRsRd rs rd => Sys2Proof.Machine.execMulxsBRsRd rs rd s
  | .mulxsWRsERd rs erd => Sys2Proof.Machine.execMulxsWRsERd rs erd s
  | .divxuBRsRd rs rd => Sys2Proof.Machine.execDivxuBRsRd rs rd s
  | .divxuWRsERd rs erd => Sys2Proof.Machine.execDivxuWRsERd rs erd s
  | .divxsBRsRd rs rd => Sys2Proof.Machine.execDivxsBRsRd rs rd s
  | .divxsWRsERd rs erd => Sys2Proof.Machine.execDivxsWRsERd rs erd s
  -- Logic
  | .andBImm8Rd imm8 rd => Sys2Proof.Machine.execAndBImm8Rd imm8 rd s
  | .andBRsRd rs rd => Sys2Proof.Machine.execAndBRsRd rs rd s
  | .andWImm16Rd imm16 rd => Sys2Proof.Machine.execAndWImm16Rd imm16 rd s
  | .andWRsRd rs rd => Sys2Proof.Machine.execAndWRsRd rs rd s
  | .andLImm32ERd imm32 erd => Sys2Proof.Machine.execAndLImm32ERd imm32 erd s
  | .andLERsERd ers erd => Sys2Proof.Machine.execAndLERsERd ers erd s
  | .orBImm8Rd imm8 rd => Sys2Proof.Machine.execOrBImm8Rd imm8 rd s
  | .orBRsRd rs rd => Sys2Proof.Machine.execOrBRsRd rs rd s
  | .orWImm16Rd imm16 rd => Sys2Proof.Machine.execOrWImm16Rd imm16 rd s
  | .orWRsRd rs rd => Sys2Proof.Machine.execOrWRsRd rs rd s
  | .orLImm32ERd imm32 erd => Sys2Proof.Machine.execOrLImm32ERd imm32 erd s
  | .orLERsERd ers erd => Sys2Proof.Machine.execOrLERsERd ers erd s
  | .xorBImm8Rd imm8 rd => Sys2Proof.Machine.execXorBImm8Rd imm8 rd s
  | .xorBRsRd rs rd => Sys2Proof.Machine.execXorBRsRd rs rd s
  | .xorWImm16Rd imm16 rd => Sys2Proof.Machine.execXorWImm16Rd imm16 rd s
  | .xorWRsRd rs rd => Sys2Proof.Machine.execXorWRsRd rs rd s
  | .xorLImm32ERd imm32 erd => Sys2Proof.Machine.execXorLImm32ERd imm32 erd s
  | .xorLERsERd ers erd => Sys2Proof.Machine.execXorLERsERd ers erd s
  | .notBRd rd => Sys2Proof.Machine.execNotBRd rd s
  | .notWRd rd => Sys2Proof.Machine.execNotWRd rd s
  | .notLERd erd => Sys2Proof.Machine.execNotLERd erd s
  -- Shift
  | .shalBRd rd => Sys2Proof.Machine.execShalBRd rd s
  | .shalWRd rd => Sys2Proof.Machine.execShalWRd rd s
  | .shalLERd erd => Sys2Proof.Machine.execShalLERd erd s
  | .sharBRd rd => Sys2Proof.Machine.execSharBRd rd s
  | .sharWRd rd => Sys2Proof.Machine.execSharWRd rd s
  | .sharLERd erd => Sys2Proof.Machine.execSharLERd erd s
  | .shllBRd rd => Sys2Proof.Machine.execShllBRd rd s
  | .shllWRd rd => Sys2Proof.Machine.execShllWRd rd s
  | .shllLERd erd => Sys2Proof.Machine.execShllLERd erd s
  | .shlrBRd rd => Sys2Proof.Machine.execShlrBRd rd s
  | .shlrWRd rd => Sys2Proof.Machine.execShlrWRd rd s
  | .shlrLERd erd => Sys2Proof.Machine.execShlrLERd erd s
  | .rotlBRd rd => Sys2Proof.Machine.execRotlBRd rd s
  | .rotlWRd rd => Sys2Proof.Machine.execRotlWRd rd s
  | .rotlLERd erd => Sys2Proof.Machine.execRotlLERd erd s
  | .rotrBRd rd => Sys2Proof.Machine.execRotrBRd rd s
  | .rotrWRd rd => Sys2Proof.Machine.execRotrWRd rd s
  | .rotrLERd erd => Sys2Proof.Machine.execRotrLERd erd s
  | .rotxlBRd rd => Sys2Proof.Machine.execRotxlBRd rd s
  | .rotxlWRd rd => Sys2Proof.Machine.execRotxlWRd rd s
  | .rotxlLERd erd => Sys2Proof.Machine.execRotxlLERd erd s
  | .rotxrBRd rd => Sys2Proof.Machine.execRotxrBRd rd s
  | .rotxrWRd rd => Sys2Proof.Machine.execRotxrWRd rd s
  | .rotxrLERd erd => Sys2Proof.Machine.execRotxrLERd erd s
  -- BitManip
  | .bsetImm3Rd imm3 rd => Sys2Proof.Machine.execBsetImm3Rd imm3 rd s
  | .bsetImm3AtERd imm3 erd => Sys2Proof.Machine.execBsetImm3AtERd imm3 erd s
  | .bsetImm3Abs8 imm3 abs8 => Sys2Proof.Machine.execBsetImm3Abs8 imm3 abs8 s
  | .bsetRnRd rn rd => Sys2Proof.Machine.execBsetRnRd rn rd s
  | .bsetRnAtERd rn erd => Sys2Proof.Machine.execBsetRnAtERd rn erd s
  | .bsetRnAbs8 rn abs8 => Sys2Proof.Machine.execBsetRnAbs8 rn abs8 s
  | .bclrImm3Rd imm3 rd => Sys2Proof.Machine.execBclrImm3Rd imm3 rd s
  | .bclrImm3AtERd imm3 erd => Sys2Proof.Machine.execBclrImm3AtERd imm3 erd s
  | .bclrImm3Abs8 imm3 abs8 => Sys2Proof.Machine.execBclrImm3Abs8 imm3 abs8 s
  | .bclrRnRd rn rd => Sys2Proof.Machine.execBclrRnRd rn rd s
  | .bclrRnAtERd rn erd => Sys2Proof.Machine.execBclrRnAtERd rn erd s
  | .bclrRnAbs8 rn abs8 => Sys2Proof.Machine.execBclrRnAbs8 rn abs8 s
  | .bnotImm3Rd imm3 rd => Sys2Proof.Machine.execBnotImm3Rd imm3 rd s
  | .bnotImm3AtERd imm3 erd => Sys2Proof.Machine.execBnotImm3AtERd imm3 erd s
  | .bnotImm3Abs8 imm3 abs8 => Sys2Proof.Machine.execBnotImm3Abs8 imm3 abs8 s
  | .bnotRnRd rn rd => Sys2Proof.Machine.execBnotRnRd rn rd s
  | .bnotRnAtERd rn erd => Sys2Proof.Machine.execBnotRnAtERd rn erd s
  | .bnotRnAbs8 rn abs8 => Sys2Proof.Machine.execBnotRnAbs8 rn abs8 s
  | .btstImm3Rd imm3 rd => Sys2Proof.Machine.execBtstImm3Rd imm3 rd s
  | .btstImm3AtERd imm3 erd => Sys2Proof.Machine.execBtstImm3AtERd imm3 erd s
  | .btstImm3Abs8 imm3 abs8 => Sys2Proof.Machine.execBtstImm3Abs8 imm3 abs8 s
  | .btstRnRd rn rd => Sys2Proof.Machine.execBtstRnRd rn rd s
  | .btstRnAtERd rn erd => Sys2Proof.Machine.execBtstRnAtERd rn erd s
  | .btstRnAbs8 rn abs8 => Sys2Proof.Machine.execBtstRnAbs8 rn abs8 s
  | .bandImm3Rd imm3 rd => Sys2Proof.Machine.execBandImm3Rd imm3 rd s
  | .bandImm3AtERd imm3 erd => Sys2Proof.Machine.execBandImm3AtERd imm3 erd s
  | .bandImm3Abs8 imm3 abs8 => Sys2Proof.Machine.execBandImm3Abs8 imm3 abs8 s
  | .biandImm3Rd imm3 rd => Sys2Proof.Machine.execBiandImm3Rd imm3 rd s
  | .biandImm3AtERd imm3 erd => Sys2Proof.Machine.execBiandImm3AtERd imm3 erd s
  | .biandImm3Abs8 imm3 abs8 => Sys2Proof.Machine.execBiandImm3Abs8 imm3 abs8 s
  | .borImm3Rd imm3 rd => Sys2Proof.Machine.execBorImm3Rd imm3 rd s
  | .borImm3AtERd imm3 erd => Sys2Proof.Machine.execBorImm3AtERd imm3 erd s
  | .borImm3Abs8 imm3 abs8 => Sys2Proof.Machine.execBorImm3Abs8 imm3 abs8 s
  | .biorImm3Rd imm3 rd => Sys2Proof.Machine.execBiorImm3Rd imm3 rd s
  | .biorImm3AtERd imm3 erd => Sys2Proof.Machine.execBiorImm3AtERd imm3 erd s
  | .biorImm3Abs8 imm3 abs8 => Sys2Proof.Machine.execBiorImm3Abs8 imm3 abs8 s
  | .bxorImm3Rd imm3 rd => Sys2Proof.Machine.execBxorImm3Rd imm3 rd s
  | .bxorImm3AtERd imm3 erd => Sys2Proof.Machine.execBxorImm3AtERd imm3 erd s
  | .bxorImm3Abs8 imm3 abs8 => Sys2Proof.Machine.execBxorImm3Abs8 imm3 abs8 s
  | .bixorImm3Rd imm3 rd => Sys2Proof.Machine.execBixorImm3Rd imm3 rd s
  | .bixorImm3AtERd imm3 erd => Sys2Proof.Machine.execBixorImm3AtERd imm3 erd s
  | .bixorImm3Abs8 imm3 abs8 => Sys2Proof.Machine.execBixorImm3Abs8 imm3 abs8 s
  | .bldImm3Rd imm3 rd => Sys2Proof.Machine.execBldImm3Rd imm3 rd s
  | .bldImm3AtERd imm3 erd => Sys2Proof.Machine.execBldImm3AtERd imm3 erd s
  | .bldImm3Abs8 imm3 abs8 => Sys2Proof.Machine.execBldImm3Abs8 imm3 abs8 s
  | .bildImm3Rd imm3 rd => Sys2Proof.Machine.execBildImm3Rd imm3 rd s
  | .bildImm3AtERd imm3 erd => Sys2Proof.Machine.execBildImm3AtERd imm3 erd s
  | .bildImm3Abs8 imm3 abs8 => Sys2Proof.Machine.execBildImm3Abs8 imm3 abs8 s
  | .bstImm3Rd imm3 rd => Sys2Proof.Machine.execBstImm3Rd imm3 rd s
  | .bstImm3AtERd imm3 erd => Sys2Proof.Machine.execBstImm3AtERd imm3 erd s
  | .bstImm3Abs8 imm3 abs8 => Sys2Proof.Machine.execBstImm3Abs8 imm3 abs8 s
  | .bistImm3Rd imm3 rd => Sys2Proof.Machine.execBistImm3Rd imm3 rd s
  | .bistImm3AtERd imm3 erd => Sys2Proof.Machine.execBistImm3AtERd imm3 erd s
  | .bistImm3Abs8 imm3 abs8 => Sys2Proof.Machine.execBistImm3Abs8 imm3 abs8 s
  -- Branch
  | .braD8 disp8 => Sys2Proof.Machine.execBraD8 disp8 s
  | .brnD8 disp8 => Sys2Proof.Machine.execBrnD8 disp8 s
  | .bhiD8 disp8 => Sys2Proof.Machine.execBhiD8 disp8 s
  | .blsD8 disp8 => Sys2Proof.Machine.execBlsD8 disp8 s
  | .bccD8 disp8 => Sys2Proof.Machine.execBccD8 disp8 s
  | .bcsD8 disp8 => Sys2Proof.Machine.execBcsD8 disp8 s
  | .bneD8 disp8 => Sys2Proof.Machine.execBneD8 disp8 s
  | .beqD8 disp8 => Sys2Proof.Machine.execBeqD8 disp8 s
  | .bvcD8 disp8 => Sys2Proof.Machine.execBvcD8 disp8 s
  | .bvsD8 disp8 => Sys2Proof.Machine.execBvsD8 disp8 s
  | .bplD8 disp8 => Sys2Proof.Machine.execBplD8 disp8 s
  | .bmiD8 disp8 => Sys2Proof.Machine.execBmiD8 disp8 s
  | .bgeD8 disp8 => Sys2Proof.Machine.execBgeD8 disp8 s
  | .bltD8 disp8 => Sys2Proof.Machine.execBltD8 disp8 s
  | .bgtD8 disp8 => Sys2Proof.Machine.execBgtD8 disp8 s
  | .bleD8 disp8 => Sys2Proof.Machine.execBleD8 disp8 s
  | .braD16 disp16 => Sys2Proof.Machine.execBraD16 disp16 s
  | .brnD16 disp16 => Sys2Proof.Machine.execBrnD16 disp16 s
  | .bhiD16 disp16 => Sys2Proof.Machine.execBhiD16 disp16 s
  | .blsD16 disp16 => Sys2Proof.Machine.execBlsD16 disp16 s
  | .bccD16 disp16 => Sys2Proof.Machine.execBccD16 disp16 s
  | .bcsD16 disp16 => Sys2Proof.Machine.execBcsD16 disp16 s
  | .bneD16 disp16 => Sys2Proof.Machine.execBneD16 disp16 s
  | .beqD16 disp16 => Sys2Proof.Machine.execBeqD16 disp16 s
  | .bvcD16 disp16 => Sys2Proof.Machine.execBvcD16 disp16 s
  | .bvsD16 disp16 => Sys2Proof.Machine.execBvsD16 disp16 s
  | .bplD16 disp16 => Sys2Proof.Machine.execBplD16 disp16 s
  | .bmiD16 disp16 => Sys2Proof.Machine.execBmiD16 disp16 s
  | .bgeD16 disp16 => Sys2Proof.Machine.execBgeD16 disp16 s
  | .bltD16 disp16 => Sys2Proof.Machine.execBltD16 disp16 s
  | .bgtD16 disp16 => Sys2Proof.Machine.execBgtD16 disp16 s
  | .bleD16 disp16 => Sys2Proof.Machine.execBleD16 disp16 s
  | .jmpAtERn ern => Sys2Proof.Machine.execJmpAtERn ern s
  | .jmpAbs24 abs24 => Sys2Proof.Machine.execJmpAbs24 abs24 s
  | .jmpInd8 abs8 => Sys2Proof.Machine.execJmpInd8 abs8 s
  | .bsrD8 disp8 => Sys2Proof.Machine.execBsrD8 disp8 s
  | .bsrD16 disp16 => Sys2Proof.Machine.execBsrD16 disp16 s
  | .jsrAtERn ern => Sys2Proof.Machine.execJsrAtERn ern s
  | .jsrAbs24 abs24 => Sys2Proof.Machine.execJsrAbs24 abs24 s
  | .jsrInd8 abs8 => Sys2Proof.Machine.execJsrInd8 abs8 s
  | .rts => Sys2Proof.Machine.execRts s
  -- SystemControl
  | .ldcImm8Ccr imm8 => Sys2Proof.Machine.execLdcImm8Ccr imm8 s
  | .ldcRsCcr rs => Sys2Proof.Machine.execLdcRsCcr rs s
  | .ldcAtERsCcr ers => Sys2Proof.Machine.execLdcAtERsCcr ers s
  | .ldcD16ERsCcr disp16 ers => Sys2Proof.Machine.execLdcD16ERsCcr disp16 ers s
  | .ldcD24ERsCcr disp24 ers => Sys2Proof.Machine.execLdcD24ERsCcr disp24 ers s
  | .ldcPostERsCcr ers => Sys2Proof.Machine.execLdcPostERsCcr ers s
  | .ldcAbs16Ccr abs16 => Sys2Proof.Machine.execLdcAbs16Ccr abs16 s
  | .ldcAbs24Ccr abs24 => Sys2Proof.Machine.execLdcAbs24Ccr abs24 s
  | .stcCcrRd rd => Sys2Proof.Machine.execStcCcrRd rd s
  | .stcCcrAtERd erd => Sys2Proof.Machine.execStcCcrAtERd erd s
  | .stcCcrD16ERd disp16 erd => Sys2Proof.Machine.execStcCcrD16ERd disp16 erd s
  | .stcCcrD24ERd disp24 erd => Sys2Proof.Machine.execStcCcrD24ERd disp24 erd s
  | .stcCcrPreERd erd => Sys2Proof.Machine.execStcCcrPreERd erd s
  | .stcCcrAbs16 abs16 => Sys2Proof.Machine.execStcCcrAbs16 abs16 s
  | .stcCcrAbs24 abs24 => Sys2Proof.Machine.execStcCcrAbs24 abs24 s
  | .andcImm8Ccr imm8 => Sys2Proof.Machine.execAndcImm8Ccr imm8 s
  | .orcImm8Ccr imm8 => Sys2Proof.Machine.execOrcImm8Ccr imm8 s
  | .xorcImm8Ccr imm8 => Sys2Proof.Machine.execXorcImm8Ccr imm8 s
  | .nop => Sys2Proof.Machine.execNop s
  | .rte => Sys2Proof.Machine.execRte s
  | .trapaImm2 imm2 => Sys2Proof.Machine.execTrapaImm2 imm2 s
  | .sleep => Sys2Proof.Machine.execSleep s
  -- BlockTransfer
  | .eepmovB => Sys2Proof.Machine.execEepmovB s
  | .eepmovW => Sys2Proof.Machine.execEepmovW s

end Sys2Proof.Machine
end

