-- ==== Sys2Proof/Machine/Cycle.lean ====
section
/-! DEFINITION. One step of the machine loop (60_exceptions R500): the environment's inputs are sampled, then the CPU
does one thing: a change of processing state, one exception sequence, or one instruction. What other masters and the
pins do between its bus accesses is `beforeAccess` of Ops. The detection point at the end of an instruction or sequence
(R510) is looked at when the next step begins; assumption 9.
Noncomputable for the reason given in Decode. -/

namespace Sys2Proof.Machine

noncomputable section

/-! ### The environment -/

/-- The inputs `new` after a step that had `old`: an NMI that arrived during the step is pending, whatever `new` says of
NMI (60_exceptions R510: nothing is lost). -/
def Env.after (old new : Env) : Env :=
  { new with nmi := match new.nmi with
      | some v => some v
      | none => old.nmiDuring.map (·.vector) }

/-- The inputs when no further sample is given: the levels stay, the other masters are done, no NMI arrives. -/
def Env.hold (e : Env) : Env := e.after { e with nmiDuring := none, busAccesses := [], slots := [] }

/-- The inputs of this step and a fresh index for its draws. -/
def State.sample (s : State) : State :=
  match s.inputs with
  | [] => { s with env := s.env.hold, draws := s.draws + 1 }
  | e :: rest => { s with env := s.env.after e, inputs := rest, draws := s.draws + 1 }

/-! ### One instruction -/

/-- The words fetched, as a whole code (30_encoding R125): every fixed bit is checked. -/
def executeWords (words : List Word) (s : State) : Result :=
  match decode words with
  | some i => exec i s
  | none => .fault .undefinedOpcode

/-- The instruction whose first words `got` are fetched, with at most `left` more to fetch (R125): the words that its
code has besides are fetched one after the other, as its length becomes known, then it executes. -/
def executeFrom : Nat → List Word → State → Result
  | 0, got, s => executeWords got s
  | left + 1, got, s =>
    if 2 * got.length < codeLength (got.flatMap nibs16) then
      readWord .extension s (s.nextPc (BitVec.ofNat 24 (2 * got.length))) fun w s => executeFrom left (got ++ [w]) s
    else executeWords got s

/-- One instruction (R125): its first word is the prefetched one (R53, R572), the longest has four more. -/
def executeInstruction (s : State) : Result := executeFrom 4 [s.pf] s

/-! ### The processing states -/

/-- Out of hardware standby into the reset state (R553): registers and CCR but for I are draws. -/
def leaveHardwareStandby (s : State) : State :=
  let regs : RegFile :=
    ⟨s.free32 0, s.free32 1, s.free32 2, s.free32 3, s.free32 4, s.free32 5, s.free32 6, s.free32 7⟩
  { s with regs := regs, ccr := ccrPut (s.free8 8) .i true, proc := .reset }

/-- A step in sleep or software standby (R551, R552): NMI or an unmasked interrupt starts its exception, without the
discarded read (R524); else nothing happens. -/
def lowPowerStep (s : State) : Result :=
  match s.acceptedRequest with
  | some (vec, env) => exceptionEntry { s with env := env } s.pc vec
  | none => .next s

/-- A step in program execution (R500, R510, R512): the detection point, skipped once when it is inhibited, then an
exception or an instruction. -/
def runStep (s : State) : Result :=
  if s.intInhibit then executeInstruction { s with intInhibit := false }
  else
    match s.acceptedRequest with
    | some (vec, env) => discardNext { s with env := env } fun s => exceptionEntry s s.pc vec
    | none => executeInstruction s

/-- A step while the bus is released (R554, 20_memory R84). -/
def busReleasedStep (s : State) : Result :=
  if s.env.busRequest then .next (s.otherMasters s.env.busAccesses) else .next { s with proc := .run }

/-- A step by processing state, no pin asserted. -/
def stateStep (s : State) : Result :=
  match s.proc with
  | .hardwareStandby => .next (leaveHardwareStandby s)
  | .reset => resetException s
  | .busReleased => busReleasedStep s
  | .sleep | .softwareStandby => lowPowerStep s
  | .run =>
    if s.env.busRequest then .next { s.otherMasters s.env.busAccesses with proc := .busReleased } else runStep s

/-- A step with its inputs sampled: STBY over everything, RES over everything but hardware standby (R500, R550). -/
def pinStep (s : State) : Result :=
  if s.env.stbyLow then .next { s with proc := .hardwareStandby }
  else if s.proc = .hardwareStandby then .next (leaveHardwareStandby s)
  else if s.env.resLow then .next (enterReset s)
  else stateStep s

/-- One step of the machine. -/
def machineStep (s : State) : Result := pinStep s.sample

/-! ### Placing an instruction where the next step fetches -/

/-- The bytes of the words, high byte first (20_memory R61), written at consecutive addresses of the fetch path. -/
def State.placeWords (s : State) : Nat → List Word → State
  | _, [] => s
  | off, w :: ws =>
    let a := evenAddr (s.nextPc (BitVec.ofNat 24 off))
    let m := memWrite (memWrite s.mem (s.phys a) (w.extractLsb' 8 8)) (s.phys (a + 1)) (w.extractLsb' 0 8)
    State.placeWords { s with mem := m } (off + 2) ws

/-- The words at PC and in the prefetch register. -/
def State.placeInstruction (s : State) (ws : List Word) : State :=
  let s' := s.placeWords 0 ws
  match ws with
  | w :: _ => { s' with pf := w }
  | [] => s'

end

end Sys2Proof.Machine
end

