-- ==== Sys2Proof/Machine/Step.lean ====
section
/-! DEFINITION. The step of the machine, and the placing of one instruction where it fetches. Noncomputable for the
reason given in Decode. -/

namespace Sys2Proof.Machine

noncomputable section

/-- One step of the machine (60_exceptions R500). -/
def step (s : State) : Host.Outcome State Fault Refusal := machineStep s

/-- The machine with the opcode-table word `w` of `nbits` bits at PC, as `decodeTableWord` lays it out: its first word
in the prefetch register (R53), all its words in memory. -/
def State.withFetchWord (s : State) (nbits w : Nat) : State := s.placeInstruction (layoutTableWord nbits w)

end

end Sys2Proof.Machine
end

