-- ==== Sys2Proof/Safety.lean ====
section
/-! DEFINITION. The terms the claims are stated in: which accesses complete (20_memory R80), the shapes of a next state,
what a store does to the bytes of memory (R64), the invariant of the machine, CCR from its eight bits (10_state R38).
Nothing in the model uses these. -/

namespace Sys2Proof.Machine

/-! ### Accesses that complete -/

/-- The map lets a byte be read here (R80). -/
abbrev State.canRead8 (s : State) (a : Addr) : Prop := readFault s.params.map (s.phys a) = none

/-- Both bytes of the word can be read. -/
abbrev State.canRead16 (s : State) (a : Addr) : Prop :=
  s.canRead8 (evenAddr a) ∧ s.canRead8 (evenAddr a + 1)

/-- Both words of the longword can be read. -/
abbrev State.canRead32 (s : State) (a : Addr) : Prop :=
  s.canRead16 (evenAddr a) ∧ s.canRead16 (evenAddr a + 2)

/-- The map lets a byte be written here (R80). -/
abbrev State.canWrite8 (s : State) (a : Addr) : Prop := writeFault s.params.map (s.phys a) = none

/-- Both bytes of the word can be written. -/
abbrev State.canWrite16 (s : State) (a : Addr) : Prop :=
  s.canWrite8 (evenAddr a) ∧ s.canWrite8 (evenAddr a + 1)

/-- Both words of the longword can be written. -/
abbrev State.canWrite32 (s : State) (a : Addr) : Prop :=
  s.canWrite16 (evenAddr a) ∧ s.canWrite16 (evenAddr a + 2)

/-- The first word of the instruction after one of `len` bytes can be fetched. -/
abbrev State.canFetch (s : State) (len : Addr) : Prop := s.canRead16 (s.nextPc len)

/-- Every address can be read. -/
abbrev State.readsComplete (s : State) : Prop := ∀ a, s.canRead8 a

/-- Every address can be written. -/
abbrev State.writesComplete (s : State) : Prop := ∀ a, s.canWrite8 a

/-! ### Codes with a prefix -/

/-- Bit 3 of the digit is 0, as in a 3-bit field (30_encoding R105). -/
def isLowNib (n : Nib) : Bool := !n.bits.getLsbD 3

/-- The digits begin with a prefix of R126, whatever its operand. -/
def hasPrefix : List Nib → Bool
  | .n0 :: .n1 :: .n0 :: .n0 :: _ | .n0 :: .n1 :: .n4 :: .n0 :: _ | .n0 :: .n1 :: .nC :: .n0 :: _
  | .n0 :: .n1 :: .nD :: .n0 :: _ | .n0 :: .n1 :: .nF :: .n0 :: _ | .n7 :: .nB :: .n5 :: .nC :: _
  | .n7 :: .nB :: .nD :: .n4 :: _ | .n7 :: .n8 :: _ | .n7 :: .nC :: _ | .n7 :: .nD :: _ | .n7 :: .nE :: _
  | .n7 :: .nF :: _ => true
  | _ => false

/-- The second word of a bit operation that only reads memory (R126). -/
def readsBit : List Nib → Bool
  | .n6 :: .n3 :: _ :: .n0 :: _ => true
  | .n7 :: .n3 :: i :: .n0 :: _ => isLowNib i
  | .n7 :: .n4 :: _ :: .n0 :: _ | .n7 :: .n5 :: _ :: .n0 :: _ | .n7 :: .n6 :: _ :: .n0 :: _
  | .n7 :: .n7 :: _ :: .n0 :: _ => true
  | _ => false

/-- The second word of a bit operation that rewrites memory (R126). -/
def writesBit : List Nib → Bool
  | .n6 :: .n0 :: _ :: .n0 :: _ | .n6 :: .n1 :: _ :: .n0 :: _ | .n6 :: .n2 :: _ :: .n0 :: _
  | .n6 :: .n7 :: _ :: .n0 :: _ => true
  | .n7 :: .n0 :: i :: .n0 :: _ | .n7 :: .n1 :: i :: .n0 :: _ | .n7 :: .n2 :: i :: .n0 :: _ => isLowNib i
  | _ => false

/-- The digits begin as a pattern of R127 with a prefix does. -/
def listedWithPrefix : List Nib → Bool
  | .n0 :: .n1 :: .n0 :: .n0 :: rest =>
    match rest with
    | .n6 :: .n9 :: _ :: e :: _ | .n6 :: .nD :: _ :: e :: _ | .n6 :: .nF :: _ :: e :: _
    | .n6 :: .nB :: .n0 :: e :: _ | .n6 :: .nB :: .n8 :: e :: _ | .n6 :: .nB :: .n2 :: e :: .n0 :: .n0 :: _
    | .n6 :: .nB :: .nA :: e :: .n0 :: .n0 :: _ => isLowNib e
    | .n7 :: .n8 :: b :: .n0 :: .n6 :: .nB :: .n2 :: e :: .n0 :: .n0 :: _ => isLowNib b && isLowNib e
    | .n7 :: .n8 :: b :: .n0 :: .n6 :: .nB :: .nA :: e :: .n0 :: .n0 :: _ => !isLowNib b && isLowNib e
    | _ => false
  | .n0 :: .n1 :: .n4 :: .n0 :: rest =>
    match rest with
    | .n6 :: .n9 :: _ :: .n0 :: _ | .n6 :: .nD :: _ :: .n0 :: _ | .n6 :: .nF :: _ :: .n0 :: _
    | .n6 :: .nB :: .n0 :: .n0 :: _ | .n6 :: .nB :: .n8 :: .n0 :: _
    | .n6 :: .nB :: .n2 :: .n0 :: .n0 :: .n0 :: _ | .n6 :: .nB :: .nA :: .n0 :: .n0 :: .n0 :: _ => true
    | .n7 :: .n8 :: b :: .n0 :: .n6 :: .nB :: .n2 :: .n0 :: .n0 :: .n0 :: _
    | .n7 :: .n8 :: b :: .n0 :: .n6 :: .nB :: .nA :: .n0 :: .n0 :: .n0 :: _ => isLowNib b
    | _ => false
  | .n0 :: .n1 :: .nC :: .n0 :: .n5 :: .n0 :: _ | .n0 :: .n1 :: .nD :: .n0 :: .n5 :: .n1 :: _ => true
  | .n0 :: .n1 :: .nC :: .n0 :: .n5 :: .n2 :: _ :: e :: _ | .n0 :: .n1 :: .nD :: .n0 :: .n5 :: .n3 :: _ :: e :: _ =>
    isLowNib e
  | .n0 :: .n1 :: .nF :: .n0 :: .n6 :: op :: d :: e :: _ =>
    (op == .n4 || op == .n5 || op == .n6) && isLowNib d && isLowNib e
  | .n7 :: .n8 :: b :: .n0 :: .n6 :: .nA :: .n2 :: _ :: .n0 :: .n0 :: _
  | .n7 :: .n8 :: b :: .n0 :: .n6 :: .nA :: .nA :: _ :: .n0 :: .n0 :: _
  | .n7 :: .n8 :: b :: .n0 :: .n6 :: .nB :: .n2 :: _ :: .n0 :: .n0 :: _
  | .n7 :: .n8 :: b :: .n0 :: .n6 :: .nB :: .nA :: _ :: .n0 :: .n0 :: _ => isLowNib b
  | .n7 :: .nC :: b :: .n0 :: rest => isLowNib b && readsBit rest
  | .n7 :: .nD :: b :: .n0 :: rest => isLowNib b && writesBit rest
  | .n7 :: .nE :: _ :: _ :: rest => readsBit rest
  | .n7 :: .nF :: _ :: _ :: rest => writesBit rest
  | .n7 :: .nB :: .n5 :: .nC :: rest | .n7 :: .nB :: .nD :: .n4 :: rest => rest.take 4 == [.n5, .n9, .n8, .nF]
  | _ => false

/-! ### Next states -/

/-- No other master and no pin comes between the bus accesses of the step (20_memory R73). -/
abbrev State.undisturbed (s : State) : Prop := s.env.slots = []

/-- The machine at another PC with the word there prefetched, everything else unchanged but that a device has seen the
fetch. -/
def State.atPc (s : State) (a : Addr) : State := { s.sawRead16 a with pc := a, pf := s.read16 .prefetch a }

/-- The machine past an instruction of `len` bytes that does nothing else. -/
def State.past (s : State) (len : Addr) : State := s.atPc (s.nextPc len)

/-- The machine after the fetch of the word two bytes after PC, which is discarded (R75). -/
def State.sawNext (s : State) : State := s.sawRead16 (s.nextPc 2)

/-- The machine after an instruction of `len` bytes that wrote these registers and this CCR, and nothing else. -/
def State.fallThrough (s : State) (len : Addr) (regs : RegFile) (ccr : Byte) : State :=
  { s.past len with regs := regs, ccr := ccr }

/-- Everything but the registers, PC, CCR, the prefetched word, memory and what devices saw is unchanged. -/
structure State.SameControl (s t : State) : Prop where
  intInhibit : t.intInhibit = s.intInhibit
  proc : t.proc = s.proc
  env : t.env = s.env
  inputs : t.inputs = s.inputs
  params : t.params = s.params
  draws : t.draws = s.draws

/-- The bytes an access writes, each at a physical address, the high byte of a word at the even one (R61). -/
def accessBytes : Config.BusAccess → List Host.Cell
  | .writeByte p v => [(p, v)]
  | .writeWord p v => [(p, v.extractLsb' 8 8), (p + 1, v.extractLsb' 0 8)]
  | .readByte _ | .readWord _ => []

/-- These accesses were made, in this order, and no others (R64, R80): RAM holds the bytes they write, devices saw those
that concern them, every other byte of RAM, of ROM and of an unmapped address reads as before. -/
structure State.Stored (s t : State) (accesses : List Config.BusAccess) : Prop where
  holds : ∀ c ∈ accesses.flatMap accessBytes, kindAt s.params.map c.1 = .ram → t.busByte .data c.1 = c.2
  others : ∀ p, p ∉ (accesses.flatMap accessBytes).map Prod.fst ∨ kindAt s.params.map p ≠ .ram →
    kindAt s.params.map p ≠ .device → t.busByte .data p = s.busByte .data p
  told : t.devLog = s.devLog ++ accesses.filter (concernsDevice s.params.map)

/-- The access of a byte store to `a`. -/
def State.storedByte (s : State) (a : Addr) (v : Byte) : List Config.BusAccess := [.writeByte (s.phys a) v]

/-- The access of a word store to `a`, which goes to the even address (R68). -/
def State.storedWord (s : State) (a : Addr) (v : Word) : List Config.BusAccess :=
  [.writeWord (s.phys (evenAddr a)) v]

/-- The two accesses of a longword store to `a` (R63, R71). -/
def State.storedLong (s : State) (a : Addr) (v : Long) : List Config.BusAccess :=
  s.storedWord (evenAddr a) (v.extractLsb' 16 16) ++ s.storedWord (evenAddr a + 2) (v.extractLsb' 0 16)

/-- The instruction completes: from `s1`, the machine as it is when the store begins (70_reset R572: past the instruction,
the next word fetched), it makes these accesses; it leaves these registers and this CCR, and changes nothing else. -/
def CompletesStoring (i : Instr) (s s1 : State) (regs : RegFile) (ccr : Byte) (accesses : List Config.BusAccess) : Prop :=
  ∃ t, exec i s = .next t ∧ t.regs = regs ∧ t.ccr = ccr ∧ t.pc = s1.pc ∧ t.pf = s1.pf ∧ s1.SameControl t ∧
    s1.Stored t accesses

/-- The branch address a vector or a @@aa:8 pointer holds (30_encoding R119, 60_exceptions R523). -/
def State.pointerAt (s : State) (a : Addr) : Addr :=
  match s.params.mode with
  | .normal => (s.read16 .data a).zeroExtend 24
  | .advanced => low24 (s.read32 a)

/-- The machine after that read. -/
def State.sawPointer (s : State) (a : Addr) : State :=
  match s.params.mode with
  | .normal => s.sawRead16 a
  | .advanced => s.sawRead32 a

/-! ### CCR -/

/-- CCR from its bits I UI H U N Z V C (R38). -/
def ccrOf (i ui h u n z v c : Bool) : Byte :=
  BitVec.ofBool i ++ BitVec.ofBool ui ++ BitVec.ofBool h ++ BitVec.ofBool u ++ BitVec.ofBool n ++ BitVec.ofBool z ++
    BitVec.ofBool v ++ BitVec.ofBool c

/-- The machine's CCR with H, N, Z, V and C given; I, UI and U stay. -/
def State.ccrHNZVC (s : State) (h n z v c : Bool) : Byte := ccrOf (s.flag .i) (s.flag .ui) h (s.flag .u) n z v c

/-- The machine's CCR with N, Z, V and C given; I, UI, H and U stay. -/
def State.ccrNZVC (s : State) (n z v c : Bool) : Byte := s.ccrHNZVC (s.flag .h) n z v c

/-- The machine's CCR after a value was moved: N and Z of it, V = 0, C and H as before (40_data_transfer R141). -/
def State.ccrMoved {w : Nat} (s : State) (v : BitVec w) : Byte :=
  s.ccrNZVC v.msb (decide (v.toNat = 0)) false (s.flag .c)

/-- The carry out of a bit of S + D, from that bit of S, D and the result: S·D + D·~R + S·~R (41_arithmetic R200). -/
def carryBit (x d r : Bool) : Bool := x && d || d && !r || x && !r

/-- The borrow out of a bit of D - S: S·~D + ~D·R + S·R (R200). -/
def borrowBit (x d r : Bool) : Bool := x && !d || !d && r || x && r

/-- CCR after the sum `r` of `d` and `x` by R200, bit m being the top one: H at bit m - 4, N, Z as given, V, C. -/
def State.ccrSum {w : Nat} (s : State) (d x r : BitVec w) (z : Bool) : Byte :=
  s.ccrHNZVC (carryBit (x.getLsbD (w - 5)) (d.getLsbD (w - 5)) (r.getLsbD (w - 5))) r.msb z
    (x.msb && d.msb && !r.msb || !x.msb && !d.msb && r.msb) (carryBit x.msb d.msb r.msb)

/-- CCR after the difference `r` of `d` and `x` by R200. -/
def State.ccrDifference {w : Nat} (s : State) (d x r : BitVec w) (z : Bool) : Byte :=
  s.ccrHNZVC (borrowBit (x.getLsbD (w - 5)) (d.getLsbD (w - 5)) (r.getLsbD (w - 5))) r.msb z
    (!x.msb && d.msb && !r.msb || x.msb && !d.msb && r.msb) (borrowBit x.msb d.msb r.msb)

/-- CCR after the negation `r` of `d` by R200: H = Dm-4 + Rm-4, V = Dm·Rm, C = Dm + Rm. -/
def State.ccrNegated {w : Nat} (s : State) (d r : BitVec w) : Byte :=
  s.ccrHNZVC (d.getLsbD (w - 5) || r.getLsbD (w - 5)) r.msb (decide (r.toNat = 0)) (d.msb && r.msb) (d.msb || r.msb)

/-- CCR after INC gave `r` from `d` by R200: V = ~Dm·Rm; C and H stay. -/
def State.ccrIncremented {w : Nat} (s : State) (d r : BitVec w) : Byte :=
  s.ccrNZVC r.msb (decide (r.toNat = 0)) (!d.msb && r.msb) (s.flag .c)

/-- CCR after DEC gave `r` from `d` by R200: V = Dm·~Rm; C and H stay. -/
def State.ccrDecremented {w : Nat} (s : State) (d r : BitVec w) : Byte :=
  s.ccrNZVC r.msb (decide (r.toNat = 0)) (d.msb && !r.msb) (s.flag .c)

/-! ### The shapes of the result statements -/

/-- The instruction completes: where the next word can be fetched, it writes these registers and this CCR, goes on after
`len` bytes, and changes nothing else. -/
def Completes (i : Instr) (s : State) (len : Addr) (regs : RegFile) (ccr : Byte) : Prop :=
  s.canFetch len → exec i s = .next (s.fallThrough len regs ccr)

/-- The instruction completes and leaves the byte `v` in Reg8(rd) and this CCR. -/
def WritesByteReg (i : Instr) (s : State) (len : Addr) (rd : R8) (v : Byte) (ccr : Byte) : Prop :=
  Completes i s len (s.setReg8 rd v).regs ccr

/-- The instruction completes and leaves the word `v` in Reg16(rd) and this CCR. -/
def WritesWordReg (i : Instr) (s : State) (len : Addr) (rd : R16) (v : Word) (ccr : Byte) : Prop :=
  Completes i s len (s.setReg16 rd v).regs ccr

/-- The instruction completes and leaves the longword `v` in ER[n] and this CCR. -/
def WritesLongReg (i : Instr) (s : State) (len : Addr) (n : ERn) (v : Long) (ccr : Byte) : Prop :=
  Completes i s len (s.setEr n v).regs ccr

/-- A byte load: past the instruction, Reg8(rd) takes the byte at `ea`, the flags are those of the value (R141). -/
def LoadsByte (i : Instr) (s : State) (len ea : Addr) (rd : R8) : Prop :=
  let v := (s.past len).read8 .data ea
  s.canFetch len → s.canRead8 ea →
    exec i s = .next { (s.past len).sawRead8 ea with regs := (s.setReg8 rd v).regs, ccr := s.ccrMoved v }

/-- A word load. -/
def LoadsWord (i : Instr) (s : State) (len ea : Addr) (rd : R16) : Prop :=
  let v := (s.past len).read16 .data ea
  s.canFetch len → s.canRead16 ea →
    exec i s = .next { (s.past len).sawRead16 ea with regs := (s.setReg16 rd v).regs, ccr := s.ccrMoved v }

/-- A longword load. -/
def LoadsLong (i : Instr) (s : State) (len ea : Addr) (n : ERn) : Prop :=
  let v := (s.past len).read32 ea
  s.canFetch len → s.canRead32 ea →
    exec i s = .next { (s.past len).sawRead32 ea with regs := (s.setEr n v).regs, ccr := s.ccrMoved v }

/-- A byte load as `LoadsByte`, the next word fetched before the datum is read or after it (R190). -/
def LoadsByteEitherOrder (i : Instr) (s : State) (len ea : Addr) (rd : R8) : Prop :=
  s.canFetch len → s.canRead8 ea → ∃ t v, exec i s = .next t ∧ t.regs = (s.setReg8 rd v).regs ∧ t.ccr = s.ccrMoved v ∧
    t.pc = s.nextPc len ∧ s.SameControl t ∧ t.mem = s.mem ∧
    (v = (s.past len).read8 .data ea ∧ t.pf = (s.past len).pf ∧ t.devLog = ((s.past len).sawRead8 ea).devLog ∨
      v = s.read8 .data ea ∧ t.pf = ((s.sawRead8 ea).past len).pf ∧ t.devLog = ((s.sawRead8 ea).past len).devLog)

/-- A byte store of `v` at `ea`: the registers become `regs`, the flags are those of the value. -/
def StoresByte (i : Instr) (s : State) (len ea : Addr) (v : Byte) (regs : RegFile) : Prop :=
  s.canFetch len → s.canWrite8 ea → CompletesStoring i s (s.past len) regs (s.ccrMoved v) (s.storedByte ea v)

/-- A word store. -/
def StoresWord (i : Instr) (s : State) (len ea : Addr) (v : Word) (regs : RegFile) : Prop :=
  s.canFetch len → s.canWrite16 ea → CompletesStoring i s (s.past len) regs (s.ccrMoved v) (s.storedWord ea v)

/-- A longword store. -/
def StoresLong (i : Instr) (s : State) (len ea : Addr) (v : Long) (regs : RegFile) : Prop :=
  s.canFetch len → s.canWrite32 ea → CompletesStoring i s (s.past len) regs (s.ccrMoved v) (s.storedLong ea v)

/-- A longword store by @-ERd: as `StoresLong`, the two words in one order or the other (R87). -/
def StoresLongAnyOrder (i : Instr) (s : State) (len ea : Addr) (v : Long) (regs : RegFile) : Prop :=
  s.canFetch len → s.canWrite32 ea →
    CompletesStoring i s (s.past len) regs (s.ccrMoved v) (s.storedLong ea v) ∨
      CompletesStoring i s (s.past len) regs (s.ccrMoved v) (s.storedLong ea v).reverse

/-- A bit operation that rewrites a register byte: `f` of it, no flag. -/
def RewritesReg (i : Instr) (s : State) (rd : R8) (f : Byte → Byte) : Prop :=
  WritesByteReg i s 2 rd (f (s.reg8 rd)) s.ccr

/-- A bit operation that rewrites a memory byte: it is read, the next word fetched, `f` of it written; no flag and no
register changes (43_bit_manipulation R340). -/
def RewritesMem (i : Instr) (s : State) (ea : Addr) (f : Byte → Byte) : Prop :=
  s.canFetch 4 → s.canRead8 ea → s.canWrite8 ea →
    CompletesStoring i s ((s.sawRead8 ea).past 4) s.regs s.ccr (s.storedByte ea (f (s.read8 .data ea)))

/-- A bit operation on a register byte that gives a CCR and changes nothing else. -/
def TestsReg (i : Instr) (s : State) (rd : R8) (f : Byte → Byte) : Prop := Completes i s 2 s.regs (f (s.reg8 rd))

/-- A bit operation on a memory byte that gives a CCR and changes nothing else: the byte is read, then the next word
fetched. -/
def TestsMem (i : Instr) (s : State) (ea : Addr) (f : Byte → Byte) : Prop :=
  s.canRead8 ea → s.canFetch 4 →
    exec i s = .next ((s.sawRead8 ea).fallThrough 4 s.regs (f (s.read8 .data ea)))

/-- A conditional branch d:8 (44_branch R401): the word at next_pc and the word at next_pc + disp are fetched; PC is the
one address or the other, with the word there; nothing else changes. -/
def BranchesShort (i : Instr) (s : State) (disp : Addr) (taken : Bool) : Prop :=
  let target := s.loadPc (s.nextPc 2 + disp)
  s.canFetch 2 → s.canRead16 target →
    exec i s = .next (if taken then s.sawNext.atPc target else (s.past 2).sawRead16 target)

/-- A conditional branch d:16 (R402): the word at next_pc + disp is fetched; when `taken` PC is that address; else the word
at next_pc is fetched too, before it or after it, and PC is next_pc; nothing else changes. -/
def BranchesLong (i : Instr) (s : State) (disp : Addr) (taken : Bool) : Prop :=
  let target := s.loadPc (s.nextPc 4 + disp)
  s.canRead16 target →
    (taken = true → exec i s = .next (s.atPc target)) ∧
    (taken = false → s.canFetch 4 →
      exec i s = .next ((s.sawRead16 target).past 4) ∨ exec i s = .next ((s.past 4).sawRead16 target))

/-- A byte with bit n made `b`, the other seven as they were (43_bit_manipulation R343, R344, R355). -/
def withBit (n : BitVec 3) (b : Bool) (v : Byte) : Byte :=
  BitVec.ofNat 8 (v.toNat - (v.getLsbD n.toNat).toNat * 2 ^ n.toNat + b.toNat * 2 ^ n.toNat)

/-- A byte with bit n inverted (R345). -/
def withBitInverted (n : BitVec 3) (v : Byte) : Byte := withBit n (!v.getLsbD n.toNat) v

/-- The bit number in a register: its low three bits (30_encoding R106). -/
def State.lowBits (s : State) (rn : R8) : BitVec 3 := BitVec.ofNat 3 ((s.reg8 rn).toNat % 8)

/-- LDC.W from `ea`: past the instruction, CCR takes the byte at the even address, the inhibit is set, the registers
become `regs` (45_system_control R443 to R448). -/
def LoadsCcrWord (i : Instr) (s : State) (len ea : Addr) (regs : RegFile) : Prop :=
  s.canFetch len → s.canRead16 ea →
    exec i s = .next { (s.past len).sawRead16 ea with
      regs := regs, ccr := (s.past len).read8 .data (evenAddr ea), intInhibit := true }

/-- STC.W to `ea`: CCR at the even address, some byte at the odd one (R450 to R455). -/
def StoresCcrWord (i : Instr) (s : State) (len ea : Addr) (regs : RegFile) : Prop :=
  s.canFetch len → s.canWrite16 ea →
    ∃ x : Byte, CompletesStoring i s (s.past len) regs s.ccr (s.storedWord ea (s.ccr ++ x))

/-- The registers after a block transfer of `n` bytes that leaves ER4 as given (46_block_transfer R490, R495). -/
def State.blockRegs (s : State) (n : Nat) (er4 : Long) : RegFile :=
  { s.regs with er4 := er4, er5 := s.regs.er5 + BitVec.ofNat 32 n, er6 := s.regs.er6 + BitVec.ofNat 32 n }

/-- The physical address of byte `i` of the source block. -/
def State.blockSource (s : State) (i : Nat) : Nat := s.phys (low24 (s.er .er5 + BitVec.ofNat 32 i))

/-- The physical address of byte `i` of the destination block. -/
def State.blockTarget (s : State) (i : Nat) : Nat := s.phys (low24 (s.er .er6 + BitVec.ofNat 32 i))

/-- The blocks' bytes can be read and written, and so can those the dummy reads are of (R494). -/
def State.canTransfer (s : State) (n : Nat) : Prop :=
  s.canRead8 (s.eaAt .er5) ∧ s.canRead8 (s.eaAt .er6) ∧
    ∀ i, i < n → readFault s.params.map (s.blockSource i) = none ∧ writeFault s.params.map (s.blockTarget i) = none

/-- Memory after the first `n` bytes of a block transfer: they are moved one at a time, each written before the next is
read (R495). -/
def State.blockMemory (s : State) (n : Nat) : List Host.Cell :=
  (List.range n).foldl (fun m i => memWrite m (s.blockTarget i) (memLookup m (s.blockSource i))) s.mem

/-- Blocks of `n` bytes that do not overlap. -/
def BlockApart (s : State) (n : Nat) : Prop := ∀ i j, i < n → j < n → s.blockSource i ≠ s.blockTarget j

/-- A block of `n` bytes was copied in RAM (R496). -/
def BlockCopied (r : Result) (s : State) (n : Nat) (er4 : Long) : Prop :=
  ∃ t, r = .next t ∧ t.regs = s.blockRegs n er4 ∧ t.ccr = s.ccr ∧ t.pc = s.nextPc 4 ∧
    t.pf = t.read16 .prefetch (s.nextPc 4) ∧ s.SameControl t ∧ t.devLog = s.devLog ∧ t.mem = s.blockMemory n ∧
    (BlockApart s n → ∀ i, i < n → memLookup t.mem (s.blockTarget i) = memLookup s.mem (s.blockSource i)) ∧
    ∀ p, (∀ i, i < n → p ≠ s.blockTarget i) → memLookup t.mem p = memLookup s.mem p

/-- A logic instruction on a byte register: every bit of the result is `f` of the bits of the destination and of `x`; N
and Z are the result's, V is 0 (42_logic_shift R280). -/
def BitwiseByte (i : Instr) (s : State) (len : Addr) (rd : R8) (x : Byte) (f : Bool → Bool → Bool) : Prop :=
  s.canFetch len → ∃ r : Byte, (∀ k, k < 8 → r.getLsbD k = f ((s.reg8 rd).getLsbD k) (x.getLsbD k)) ∧
    exec i s = .next (s.fallThrough len (s.setReg8 rd r).regs (s.ccrMoved r))

/-- A logic instruction on a word register. -/
def BitwiseWord (i : Instr) (s : State) (len : Addr) (rd : R16) (x : Word) (f : Bool → Bool → Bool) : Prop :=
  s.canFetch len → ∃ r : Word, (∀ k, k < 16 → r.getLsbD k = f ((s.reg16 rd).getLsbD k) (x.getLsbD k)) ∧
    exec i s = .next (s.fallThrough len (s.setReg16 rd r).regs (s.ccrMoved r))

/-- A logic instruction on a longword register. -/
def BitwiseLong (i : Instr) (s : State) (len : Addr) (n : ERn) (x : Long) (f : Bool → Bool → Bool) : Prop :=
  s.canFetch len → ∃ r : Long, (∀ k, k < 32 → r.getLsbD k = f ((s.er n).getLsbD k) (x.getLsbD k)) ∧
    exec i s = .next (s.fallThrough len (s.setEr n r).regs (s.ccrMoved r))

/-- Every bit moved one place up, `b` into bit 0 (R302). -/
def shiftedLeft {w : Nat} (d : BitVec w) (b : Bool) : BitVec w := BitVec.ofNat w (2 * d.toNat + b.toNat)

/-- Every bit moved one place down, `b` into the top bit (R302). -/
def shiftedRight {w : Nat} (d : BitVec w) (b : Bool) : BitVec w :=
  BitVec.ofNat w (d.toNat / 2 + b.toNat * 2 ^ (w - 1))

/-- The pointer at this address can be read. -/
def State.canReadPointer (s : State) (a : Addr) : Prop :=
  match s.params.mode with
  | .normal => s.canRead16 a
  | .advanced => s.canRead32 a

/-- How far a subroutine call moves ER7 (R413). -/
def State.returnSize (s : State) : Long :=
  match s.params.mode with
  | .normal => 2
  | .advanced => 4

/-- The accesses that write the subroutine frame of the return address `ret`, the reserved byte being `rsv` (R413). -/
def State.returnFrame (s : State) (ret : Addr) (rsv : Byte) : List Config.BusAccess :=
  match s.params.mode with
  | .normal => s.storedWord (low24 (s.er .er7 - 2)) (ret.extractLsb' 0 16)
  | .advanced =>
    s.storedWord (low24 (s.er .er7 - 4)) (rsv ++ ret.extractLsb' 16 8) ++
      s.storedWord (low24 (s.er .er7 - 4) + 2) (ret.extractLsb' 0 16)

/-- The words of the subroutine frame can be written. -/
def State.canPush (s : State) : Prop :=
  match s.params.mode with
  | .normal => s.canWrite16 (low24 (s.er .er7 - 2))
  | .advanced => s.canWrite16 (low24 (s.er .er7 - 4)) ∧ s.canWrite16 (low24 (s.er .er7 - 4) + 2)

/-- The return address on the stack (R413). -/
def State.returnAddress (s : State) : Addr :=
  match s.params.mode with
  | .normal => (s.read16 .data (s.eaAt .er7)).zeroExtend 24
  | .advanced =>
    (s.read16 .data (s.eaAt .er7)).extractLsb' 0 8 ++ (s.sawRead16 (s.eaAt .er7)).read16 .data (s.eaAt .er7 + 2)

/-- The machine after that read. -/
def State.sawReturn (s : State) : State :=
  match s.params.mode with
  | .normal => s.sawRead16 (s.eaAt .er7)
  | .advanced => (s.sawRead16 (s.eaAt .er7)).sawRead16 (s.eaAt .er7 + 2)

/-- A call that saves `ret` (R407 to R410): `s0` is the machine when it fetches the target; the target's first word is
fetched, then the frame written; ER7 moves, PC is the target; nothing else changes. -/
def Calls (i : Instr) (s s0 : State) (ret target : Addr) : Prop :=
  s.canRead16 (s.loadPc target) → s.canPush →
    ∃ rsv, CompletesStoring i s (s0.atPc (s.loadPc target)) (s.setEr .er7 (s.er .er7 - s.returnSize)).regs s.ccr
      (s.returnFrame ret rsv)

/-- The accesses that write the exception frame, PC[15:0] first (60_exceptions R520, R521); `y` is the byte at SP + 1 in
normal mode. -/
def State.exceptionFrame (s : State) (ret : Addr) (y : Byte) : List Config.BusAccess :=
  s.storedWord (low24 (s.er .er7 - 4) + 2) (ret.extractLsb' 0 16) ++
    s.storedWord (low24 (s.er .er7 - 4))
      (s.ccr ++ match s.params.mode with
        | .normal => y
        | .advanced => ret.extractLsb' 16 8)

/-- The words of the exception frame can be written. -/
def State.canEnter (s : State) : Prop :=
  s.canWrite16 (low24 (s.er .er7 - 4) + 2) ∧ s.canWrite16 (low24 (s.er .er7 - 4))

/-- What a step gives is the machine `s` with the exception of vector `vec` taken and `ret` saved (R520, R522, R530): the
frame is written, ER7 moves by 4, I is set, UI too when it is a mask bit, and the CPU runs; PC then comes from the vector
as it stands in memory; nothing else changes. `u` is the machine before the vector is read. -/
def Enters (r : Result) (s : State) (ret : Addr) (vec : Nat) : Prop :=
  let a := match s.params.mode with
    | .normal => BitVec.ofNat 24 (2 * vec)
    | .advanced => BitVec.ofNat 24 (4 * vec)
  ∃ u y, r = .next ((u.sawPointer a).atPc (s.loadPc (u.pointerAt a))) ∧
    u.regs = (s.setEr .er7 (s.er .er7 - 4)).regs ∧
    u.ccr = ccrOf true (s.flag .ui || s.env.uiIsMask) (s.flag .h) (s.flag .u) (s.flag .n) (s.flag .z) (s.flag .v)
      (s.flag .c) ∧
    s.Stored u (s.exceptionFrame ret y) ∧ u.proc = .run ∧ u.intInhibit = s.intInhibit ∧ u.env = s.env ∧
    u.inputs = s.inputs ∧ u.params = s.params ∧ u.draws = s.draws

/-! ### Which access comes first -/

/-- A word of which a byte cannot be read: the fault the map gives it (R80). -/
def State.unreadableWord (s : State) (a : Addr) (f : Fault) : Prop :=
  readFault s.params.map (s.phys (evenAddr a)) = some f ∨
    s.canRead8 (evenAddr a) ∧ readFault s.params.map (s.phys (evenAddr a + 1)) = some f

/-- The address of the operand of a bit operation on memory (43_bit_manipulation R340). -/
def bitOperand (s : State) : Instr → Option Addr
  | .bsetImm3AtERd _ n | .bsetRnAtERd _ n | .bclrImm3AtERd _ n | .bclrRnAtERd _ n | .bnotImm3AtERd _ n
  | .bnotRnAtERd _ n | .btstImm3AtERd _ n | .btstRnAtERd _ n | .bandImm3AtERd _ n | .biandImm3AtERd _ n
  | .borImm3AtERd _ n | .biorImm3AtERd _ n | .bxorImm3AtERd _ n | .bixorImm3AtERd _ n | .bldImm3AtERd _ n
  | .bildImm3AtERd _ n | .bstImm3AtERd _ n | .bistImm3AtERd _ n => some (s.eaAt n)
  | .bsetImm3Abs8 _ a | .bsetRnAbs8 _ a | .bclrImm3Abs8 _ a | .bclrRnAbs8 _ a | .bnotImm3Abs8 _ a
  | .bnotRnAbs8 _ a | .btstImm3Abs8 _ a | .btstRnAbs8 _ a | .bandImm3Abs8 _ a | .biandImm3Abs8 _ a
  | .borImm3Abs8 _ a | .biorImm3Abs8 _ a | .bxorImm3Abs8 _ a | .bixorImm3Abs8 _ a | .bldImm3Abs8 _ a
  | .bildImm3Abs8 _ a | .bstImm3Abs8 _ a | .bistImm3Abs8 _ a => some (eaAbs8 a)
  | _ => none

/-- The first access of the instruction after its own words is the fetch of the word after it, `R:W NEXT` (20_memory
R86): true of all but a bit operation on memory, EEPMOV, MOVFPE, MOVTPE, and the branches of four bytes, which fetch the
word at the target, or may fetch it first. -/
def fetchesNextFirst : Instr → Bool
  | .braD16 _ | .brnD16 _ | .bhiD16 _ | .blsD16 _ | .bccD16 _ | .bcsD16 _ | .bneD16 _ | .beqD16 _ | .bvcD16 _
  | .bvsD16 _ | .bplD16 _ | .bmiD16 _ | .bgeD16 _ | .bltD16 _ | .bgtD16 _ | .bleD16 _ | .bsrD16 _ | .jmpAbs24 _
  | .jsrAbs24 _ | .eepmovB | .eepmovW | .movfpeAbs16Rd _ _ | .movtpeRsAbs16 _ _ => false
  | .bsetImm3AtERd _ _ | .bsetRnAtERd _ _ | .bclrImm3AtERd _ _ | .bclrRnAtERd _ _ | .bnotImm3AtERd _ _
  | .bnotRnAtERd _ _ | .btstImm3AtERd _ _ | .btstRnAtERd _ _ | .bandImm3AtERd _ _ | .biandImm3AtERd _ _
  | .borImm3AtERd _ _ | .biorImm3AtERd _ _ | .bxorImm3AtERd _ _ | .bixorImm3AtERd _ _ | .bldImm3AtERd _ _
  | .bildImm3AtERd _ _ | .bstImm3AtERd _ _ | .bistImm3AtERd _ _ | .bsetImm3Abs8 _ _ | .bsetRnAbs8 _ _
  | .bclrImm3Abs8 _ _ | .bclrRnAbs8 _ _ | .bnotImm3Abs8 _ _ | .bnotRnAbs8 _ _ | .btstImm3Abs8 _ _
  | .btstRnAbs8 _ _ | .bandImm3Abs8 _ _ | .biandImm3Abs8 _ _ | .borImm3Abs8 _ _ | .biorImm3Abs8 _ _
  | .bxorImm3Abs8 _ _ | .bixorImm3Abs8 _ _ | .bldImm3Abs8 _ _ | .bildImm3Abs8 _ _ | .bstImm3Abs8 _ _
  | .bistImm3Abs8 _ _ => false
  | _ => true

/-! ### Whole steps -/

/-- The step is abandoned (60_exceptions R553, R555, 70_reset R561) with this memory: the reset state with I set, or
hardware standby, the pin being Low. -/
def Abandoned (r : Result) (cut : Cut) (mem : List Host.Cell) : Prop :=
  ∃ t, r = .next t ∧ t.mem = mem ∧
    match cut with
    | .res => t.proc = .reset ∧ t.flag .i = true ∧ t.env.resLow = true
    | .stby => t.proc = .hardwareStandby ∧ t.env.stbyLow = true

/-- The instruction loads CCR and so inhibits the next detection point (R512). -/
def loadsCcr : Instr → Bool
  | .ldcImm8Ccr _ | .ldcRsCcr _ | .ldcAtERsCcr _ | .ldcD16ERsCcr _ _ | .ldcD24ERsCcr _ _ | .ldcPostERsCcr _
  | .ldcAbs16Ccr _ | .ldcAbs24Ccr _ | .andcImm8Ccr _ | .orcImm8Ccr _ | .xorcImm8Ccr _ => true
  | _ => false

/-- No pin is asserted, no other master asks for the bus, the CPU runs a program, and no exception is taken first. -/
structure State.RunsNext (s : State) : Prop where
  undisturbed : s.sample.undisturbed
  run : s.proc = .run
  standby : s.sample.env.stbyLow = false
  reset : s.sample.env.resLow = false
  bus : s.sample.env.busRequest = false
  request : s.intInhibit = true ∨ s.sample.acceptedRequest = none

/-- The machine after the fetch of the `n` words from `off` bytes after PC on. -/
def State.sawWords (s : State) : Nat → Nat → State
  | _, 0 => s
  | off, n + 1 => (s.sawRead16 (s.nextPc (BitVec.ofNat 24 off))).sawWords (off + 2) n

/-- The words from `off` bytes after PC on, as fetching them one after the other gives them. -/
def State.wordsAhead (s : State) : Nat → Nat → List Word
  | _, 0 => []
  | off, n + 1 =>
    let a := s.nextPc (BitVec.ofNat 24 off)
    s.read16 .extension a :: (s.sawRead16 a).wordsAhead (off + 2) n

/-- The words at PC, as many as the longest instruction has: the first is the prefetched one (R53, 70_reset R572). -/
def State.instructionWords (s : State) : List Word := s.pf :: s.wordsAhead 2 4

/-! ### The invariant -/

/-- What every step keeps: memory in its canonical form; PC even (R31), below 2^16 in normal mode (R35); I set in the
reset state (70_reset R561). -/
structure State.Inv (s : State) : Prop where
  mem : memWf s.mem = true
  even : s.pc.getLsbD 0 = false
  normal : s.params.mode = .normal → s.pc.toNat < 2 ^ 16
  reset : s.proc = .reset → s.flag .i = true

end Sys2Proof.Machine
end

