-- ==== Sys2Proof/Certificates/Slice0/Obligations.lean ====
section
/-! DEFINITION. The statements for the provers. Each is said in the model's own functions, with the terms of Safety for the
shapes of next states. A statement about a next state names what changes; the shape says that nothing else does. -/

section

open Sys2Proof Sys2Proof.Machine

/-- Decoding the words of a well-formed instruction, whatever stands after them, gives it back (R125 to R130). -/
def Obligations.DecodeAfterEncode : Prop :=
  ∀ (i : Instr) (rest : List Word), i.wellFormed = true → decode (encode i ++ rest) = some i

/-- Whatever the decoder reads is a well-formed instruction whose words are the first words read, each fixed bit
checked (R125, R130). -/
def Obligations.EncodeAfterDecode : Prop :=
  ∀ (ws : List Word) (i : Instr), decode ws = some i →
    i.wellFormed = true ∧ encode i = ws.take (i.length / 2)

/-- Words written out from the patterns of R127 decode to their instructions. -/
def Obligations.WrittenWordsDecode : Prop :=
  decode [0x8901] = some (.addBImm8Rd 0x01 ⟨.er1, .l⟩) ∧
    decode [0x6E12, 0x1234] = some (.movBD16ERsRd 0x1234 .er1 ⟨.er2, .h⟩) ∧
    decode [0x0100, 0x6B80, 0x8000] = some (.movLERsAbs16 .er0 0x8000) ∧
    decode [0x7960, 0x8001] = some (.andWImm16Rd 0x8001 ⟨.er0, .r⟩) ∧
    decode [0x1199] = some (.sharWRd ⟨.er1, .e⟩) ∧
    decode [0x7D20, 0x7070] = some (.bsetImm3AtERd 7 .er2) ∧
    decode [0x58D0, 0x0100] = some (.bltD16 0x0100) ∧
    decode [0x0140, 0x69B0] = some (.stcCcrAtERd .er3) ∧
    decode [0x5730] = some (.trapaImm2 3) ∧ decode [0x7BD4, 0x598F] = some .eepmovW

/-- A code that begins with a prefix of R126 (0100, 0140, 01C0, 01D0, 01F0, 78, 7B5C, 7BD4, 7C, 7D, 7E, 7F) and does
not go on as R127 lists for that prefix is refused, whatever stands after it: every fixed digit and every fixed 0 bit
of the words that follow is checked (R131). -/
def Obligations.PrefixFollowers : Prop :=
  ∀ ws : List Word, hasPrefix (ws.flatMap nibs16) = true → listedWithPrefix (ws.flatMap nibs16) = false →
    decode ws = none

/-- When no pin is asserted, nothing comes between the bus accesses, no exception is taken first and the words at PC
decode to `i` and can be fetched, the step is `exec i` with this step's inputs sampled, the words after the first
fetched and the inhibit bit cleared (R125, R500, R512). That the detection point is looked at as the step begins is
assumption 9. -/
def Obligations.StepRunsDecoded : Prop :=
  ∀ (s : State) (i : Instr), s.RunsNext → decode s.sample.instructionWords = some i →
    (∀ k, k < i.length / 2 - 1 → s.sample.canRead16 (s.sample.nextPc (BitVec.ofNat 24 (2 * (k + 1))))) →
    step s = exec i { s.sample.sawWords 2 (i.length / 2 - 1) with intInhibit := false }

/-- Where the words at PC are the code of no instruction and those that tell it (R125) can be fetched, the step is the
fault of that name (R131), and no instruction is. The fault is the spec's decision D13, not a source's; that it is the
step's is assumption 11. -/
def Obligations.UndefinedCodeFaults : Prop :=
  (∀ s : State, s.RunsNext → decode s.sample.instructionWords = none →
      (∀ k, 2 * (k + 1) < codeLength (s.sample.instructionWords.flatMap nibs16) →
        s.sample.canRead16 (s.sample.nextPc (BitVec.ofNat 24 (2 * (k + 1))))) →
      step s = .fault .undefinedOpcode) ∧
    ∀ (s : State) (i : Instr), exec i s ≠ .fault .undefinedOpcode

/-- MemRead and MemWrite in RAM as R64 writes them out, and what a byte read sees of a word written. -/
def Obligations.MemoryPrimitives : Prop :=
  ∀ (s : State) (a : Addr), s.params.map = [] →
    (s.read8 .data a = memLookup s.mem (s.phys a) ∧
      s.read16 .data a = memLookup s.mem (s.phys (evenAddr a)) ++ memLookup s.mem (s.phys (evenAddr a + 1)) ∧
      s.read32 a = s.read16 .data (evenAddr a) ++ s.read16 .data (evenAddr a + 2) ∧
      s.read16 .prefetch a = s.read16 .data a ∧ s.read16 .extension a = s.read16 .data a) ∧
    (∀ v p, memLookup (s.write8 a v).mem p = if p = s.phys a then v else memLookup s.mem p) ∧
    (∀ v p, memLookup (s.write16 a v).mem p = if p = s.phys (evenAddr a + 1) then v.extractLsb' 0 8
      else if p = s.phys (evenAddr a) then v.extractLsb' 8 8 else memLookup s.mem p) ∧
    (s.undisturbed → ∀ v, store32 s a v .next = .next ((s.write16 (evenAddr a) (v.extractLsb' 16 16)).write16 (evenAddr a + 2)
      (v.extractLsb' 0 16))) ∧
    ∀ v : Word, (s.write16 a v).read8 .data (evenAddr a) = v.extractLsb' 8 8 ∧
      (s.write16 a v).read8 .data (evenAddr a + 1) = v.extractLsb' 0 8

/-- A word or longword access, a pointer or vector fetch and a branch target drop bit 0 of the address and nothing
else, a byte access drops nothing, and no fault comes of it (R68, R31, R400); an access shows memory the low 16 bits
of the address in normal mode and, in advanced mode, all 24 but those the product ignores (R66). That a PC value loses
bit 0 as it is loaded is the spec's decision D5: assumption 19; the number of bits ignored is a parameter: assumption
28. -/
def Obligations.OddAddressesRoundDown : Prop :=
  ∀ (s : State) (a : Addr),
    (evenAddr a).toNat = a.toNat - a.toNat % 2 ∧
    (∀ k, load16 s a k = load16 s (evenAddr a) k) ∧ (∀ k, load32 s a k = load32 s (evenAddr a) k) ∧
    (∀ v k, store16 s a v k = store16 s (evenAddr a) v k) ∧ (∀ v k, store32 s a v k = store32 s (evenAddr a) v k) ∧
    (∀ k, loadPointer s a k = loadPointer s (evenAddr a) k) ∧
    (s.undisturbed → s.canRead8 a → ∀ k, load8 s a k = k (s.busByte .data (s.phys a)) (s.sawRead8 a)) ∧
    (∀ why, s.read16 why a = s.read16 why (evenAddr a)) ∧ s.loadPc a = s.loadPc (evenAddr a) ∧
    (s.loadPc a).getLsbD 0 = false ∧
    (s.params.mode = .normal → s.phys a = a.toNat % 2 ^ 16) ∧
    (s.params.mode = .advanced → s.phys a = a.toNat % 2 ^ (24 - s.params.ignoredBits.val)) ∧
    (s.params.mode = .advanced → s.params.ignoredBits = 0 → s.phys a = a.toNat)

/-- The effective addresses of R112 to R119, R118's displacements and load_pc (R400) as numbers. -/
def Obligations.EffectiveAddressFormulas : Prop :=
  ∀ (s : State) (n : ERn) (d16 : Word) (d24 : Addr) (a8 : Byte),
    (s.eaAt n).toNat = (s.er n).toNat % 2 ^ 24 ∧
    ((s.eaD16 d16 n).toNat : Int) = ((s.er n).toNat + d16.toInt) % 2 ^ 24 ∧
    (s.eaD24 d24 n).toNat = ((s.er n).toNat + d24.toNat) % 2 ^ 24 ∧
    (eaAbs8 a8).toNat = 0xFFFF00 + a8.toNat ∧
    (eaAbs16 d16).toNat = (if d16.toNat < 0x8000 then d16.toNat else 0xFF0000 + d16.toNat) ∧
    (eaPointer a8).toNat = a8.toNat ∧
    ((disp8To24 a8).toNat : Int) = a8.toInt % 2 ^ 24 ∧ ((disp16To24 d16).toNat : Int) = d16.toInt % 2 ^ 24 ∧
    (s.params.mode = .normal → (s.loadPc d24).toNat = d24.toNat % 2 ^ 16 - d24.toNat % 2) ∧
    (s.params.mode = .advanced → (s.loadPc d24).toNat = d24.toNat - d24.toNat % 2)

/-- What each kind of address does (R80). A fault where the map says so. Else a write is kept by RAM, ignored by ROM
and by an unmapped address, seen by a device; a read of RAM and ROM gives the byte held, of an unmapped address an
arbitrary byte, of a device what it answers after all it has seen, the read itself seen too. The map as a list of
regions, the log of device accesses and the form of a device's answer are the model's, the faults the spec's decision
D8: assumptions 6, 7 and 10. -/
def Obligations.RegionAccesses : Prop :=
  ∀ (s : State) (a : Addr) (v : Byte), s.undisturbed →
    let p := s.phys a
    let kind := kindAt s.params.map p
    (kind = .unmapped .fault → (∀ k, load8 s a k = .fault (.unmappedAccess p)) ∧
      ∀ k, store8 s a v k = .fault (.unmappedAccess p)) ∧
    (kind = .rom .fault → ∀ k, store8 s a v k = .fault (.romWrite p)) ∧
    (kind = .rom .complete ∨ kind = .unmapped .complete → ∀ k, store8 s a v k = k s) ∧
    (kind = .ram → ∀ k, store8 s a v k = k { s with mem := memWrite s.mem p v }) ∧
    (kind = .device → ∀ k, store8 s a v k = k { s with devLog := s.devLog ++ [.writeByte p v] }) ∧
    (∀ w, kind = .ram ∨ kind = .rom w → ∀ k, load8 s a k = k (memLookup s.mem p) s) ∧
    (kind = .unmapped .complete → ∀ k, load8 s a k = k (Config.openBus s.draws .data p) s) ∧
    (kind = .device → ∀ k, load8 s a k = k (Config.deviceByte s.draws s.devLog p)
      { s with devLog := s.devLog ++ [.readByte p] })

/-- Where the map makes the fetch of the word after an instruction fault, at either byte of it, the instruction is
that fault (R80, R86): every instruction of every length whose first access that is (all but the branches of four
bytes, which fetch the target and may fetch it first); a bit operation on memory once its operand is read; EEPMOV once
the block is transferred; MOVFPE and MOVTPE in either order of their accesses. The map is the model's form of R80 and
the fault the spec's decision D8: assumption 10; the order in MOVFPE and MOVTPE is assumption 12, what a branch of
four bytes fetches assumption 8. -/
def Obligations.UnreadableNextWordFaults : Prop :=
  ∀ (s : State) (i : Instr) (f : Fault), s.undisturbed → s.unreadableWord (s.nextPc (BitVec.ofNat 24 i.length)) f →
    (∃ p, f = .unmappedAccess p) ∧ (fetchesNextFirst i = true → exec i s = .fault f) ∧
    (∀ ea, bitOperand s i = some ea → s.canRead8 ea → exec i s = .fault f) ∧
    (i = .eepmovB → s.canTransfer (s.reg8 ⟨.er4, .l⟩).toNat → exec i s = .fault f) ∧
    (i = .eepmovW → s.canTransfer (s.reg16 ⟨.er4, .r⟩).toNat → exec i s = .fault f) ∧
    (∀ a rd, i = .movfpeAbs16Rd a rd → s.params.eClock = true → s.canRead8 (eaAbs16 a) → exec i s = .fault f) ∧
    ∀ rs a, i = .movtpeRsAbs16 rs a → s.params.eClock = true → s.canWrite8 (eaAbs16 a) → exec i s = .fault f

/-- The views of R21: each is its slice of ER[n]; a write to one changes exactly those bits and no other register. -/
def Obligations.RegisterViews : Prop :=
  ∀ (s : State) (n m : ERn) (b : Byte) (w : Word) (k : Nat),
    (k < 8 → (s.reg8 ⟨n, .l⟩).getLsbD k = (s.er n).getLsbD k ∧ (s.reg8 ⟨n, .h⟩).getLsbD k = (s.er n).getLsbD (8 + k)) ∧
    (k < 16 → (s.reg16 ⟨n, .r⟩).getLsbD k = (s.er n).getLsbD k ∧
      (s.reg16 ⟨n, .e⟩).getLsbD k = (s.er n).getLsbD (16 + k)) ∧
    ((s.setReg8 ⟨n, .l⟩ b).er n).getLsbD k = (if k < 8 then b.getLsbD k else (s.er n).getLsbD k) ∧
    ((s.setReg8 ⟨n, .h⟩ b).er n).getLsbD k = (if 8 ≤ k ∧ k < 16 then b.getLsbD (k - 8) else (s.er n).getLsbD k) ∧
    ((s.setReg16 ⟨n, .r⟩ w).er n).getLsbD k = (if k < 16 then w.getLsbD k else (s.er n).getLsbD k) ∧
    ((s.setReg16 ⟨n, .e⟩ w).er n).getLsbD k = (if 16 ≤ k ∧ k < 32 then w.getLsbD (k - 16) else (s.er n).getLsbD k) ∧
    (m ≠ n → ∀ half whalf, (s.setReg8 ⟨n, half⟩ b).er m = s.er m ∧ (s.setReg16 ⟨n, whalf⟩ w).er m = s.er m ∧
      ∀ v, (s.setEr n v).er m = s.er m) ∧ ∀ v, (s.setEr n v).er n = v

/-- MOV between registers and from an immediate (R142 to R147): the destination takes the value, N and Z are its, V =
0, and nothing else changes but PC and the prefetched word. -/
def Obligations.MoveToRegister : Prop :=
  ∀ s : State, s.undisturbed →
    (∀ rs rd, WritesByteReg (.movBRsRd rs rd) s 2 rd (s.reg8 rs) (s.ccrMoved (s.reg8 rs))) ∧
    (∀ rs rd, WritesWordReg (.movWRsRd rs rd) s 2 rd (s.reg16 rs) (s.ccrMoved (s.reg16 rs))) ∧
    (∀ ers erd, WritesLongReg (.movLERsERd ers erd) s 2 erd (s.er ers) (s.ccrMoved (s.er ers))) ∧
    (∀ v rd, WritesByteReg (.movBImm8Rd v rd) s 2 rd v (s.ccrMoved v)) ∧
    (∀ v rd, WritesWordReg (.movWImm16Rd v rd) s 4 rd v (s.ccrMoved v)) ∧
    (∀ v erd, WritesLongReg (.movLImm32ERd v erd) s 6 erd v (s.ccrMoved v))

/-- MOV loads without a register update, and MOVFPE with an E clock (R148 to R150, R152 to R157, R159 to R163, R165,
R166, R190): the destination takes the value at the effective address, memory and the address register stay. In which
order MOVFPE fetches and reads no source states: assumption 12. -/
def Obligations.LoadFromMemory : Prop :=
  ∀ s : State, s.undisturbed →
    (∀ n rd, LoadsByte (.movBAtERsRd n rd) s 2 (s.eaAt n) rd) ∧
    (∀ d n rd, LoadsByte (.movBD16ERsRd d n rd) s 4 (s.eaD16 d n) rd) ∧
    (∀ d n rd, LoadsByte (.movBD24ERsRd d n rd) s 8 (s.eaD24 d n) rd) ∧
    (∀ a rd, LoadsByte (.movBAbs8Rd a rd) s 2 (eaAbs8 a) rd) ∧
    (∀ a rd, LoadsByte (.movBAbs16Rd a rd) s 4 (eaAbs16 a) rd) ∧
    (∀ a rd, LoadsByte (.movBAbs24Rd a rd) s 6 a rd) ∧
    (s.params.eClock = true → ∀ a rd, LoadsByteEitherOrder (.movfpeAbs16Rd a rd) s 4 (eaAbs16 a) rd) ∧
    (∀ n rd, LoadsWord (.movWAtERsRd n rd) s 2 (s.eaAt n) rd) ∧
    (∀ d n rd, LoadsWord (.movWD16ERsRd d n rd) s 4 (s.eaD16 d n) rd) ∧
    (∀ d n rd, LoadsWord (.movWD24ERsRd d n rd) s 8 (s.eaD24 d n) rd) ∧
    (∀ a rd, LoadsWord (.movWAbs16Rd a rd) s 4 (eaAbs16 a) rd) ∧
    (∀ a rd, LoadsWord (.movWAbs24Rd a rd) s 6 a rd) ∧
    (∀ n erd, LoadsLong (.movLAtERsERd n erd) s 4 (s.eaAt n) erd) ∧
    (∀ d n erd, LoadsLong (.movLD16ERsERd d n erd) s 6 (s.eaD16 d n) erd) ∧
    (∀ d n erd, LoadsLong (.movLD24ERsERd d n erd) s 10 (s.eaD24 d n) erd) ∧
    (∀ a erd, LoadsLong (.movLAbs16ERd a erd) s 6 (eaAbs16 a) erd) ∧
    (∀ a erd, LoadsLong (.movLAbs24ERd a erd) s 8 a erd)

/-- MOV with @ERs+, and POP (R151, R158, R164, R186, R187, 30_encoding R113): the value at ERs goes to the destination
and ERs moves by the size; where the destination is part of ERs, ERs as a whole is any value and the rest as always
(R192). Assumption 23. -/
def Obligations.LoadPostIncrement : Prop :=
  ∀ s : State, s.undisturbed →
    (∀ n rd, let p := s.past 2; let v := p.read8 .data (s.eaAt n)
      s.canFetch 2 → s.canRead8 (s.eaAt n) → ∃ x, exec (.movBPostERsRd n rd) s = .next { p.sawRead8 (s.eaAt n) with
        regs := if rd.n = n then (s.setEr n x).regs else ((s.setEr n (s.er n + 1)).setReg8 rd v).regs,
        ccr := s.ccrMoved v }) ∧
    (∀ n rd, let p := s.past 2; let v := p.read16 .data (s.eaAt n)
      s.canFetch 2 → s.canRead16 (s.eaAt n) → ∃ x, exec (.movWPostERsRd n rd) s = .next { p.sawRead16 (s.eaAt n) with
        regs := if rd.n = n then (s.setEr n x).regs else ((s.setEr n (s.er n + 2)).setReg16 rd v).regs,
        ccr := s.ccrMoved v }) ∧
    (∀ n erd, let p := s.past 4; let v := p.read32 (s.eaAt n)
      s.canFetch 4 → s.canRead32 (s.eaAt n) → ∃ x, exec (.movLPostERsERd n erd) s = .next { p.sawRead32 (s.eaAt n) with
        regs := if erd = n then (s.setEr n x).regs else ((s.setEr n (s.er n + 4)).setEr erd v).regs,
        ccr := s.ccrMoved v }) ∧
    (∀ rn, exec (.popWRn rn) s = exec (.movWPostERsRd .er7 rn) s) ∧
    (∀ n, exec (.popLERn n) s = exec (.movLPostERsERd .er7 n) s) ∧
    (∀ rn, s.canFetch 2 → s.canRead16 (s.eaAt .er7) → ∃ t, exec (.popWRn rn) s = .next t) ∧
    ∀ n, s.canFetch 4 → s.canRead32 (s.eaAt .er7) → ∃ t, exec (.popLERn n) s = .next t

/-- MOV stores without a register update (R167 to R169, R171 to R176, R178 to R182, R184, R185): exactly the bytes at
the effective address change, every register stays, the flags are those of the value. -/
def Obligations.StoreToMemory : Prop :=
  ∀ s : State, s.undisturbed →
    (∀ rs n, StoresByte (.movBRsAtERd rs n) s 2 (s.eaAt n) (s.reg8 rs) s.regs) ∧
    (∀ rs d n, StoresByte (.movBRsD16ERd rs d n) s 4 (s.eaD16 d n) (s.reg8 rs) s.regs) ∧
    (∀ rs d n, StoresByte (.movBRsD24ERd rs d n) s 8 (s.eaD24 d n) (s.reg8 rs) s.regs) ∧
    (∀ rs a, StoresByte (.movBRsAbs8 rs a) s 2 (eaAbs8 a) (s.reg8 rs) s.regs) ∧
    (∀ rs a, StoresByte (.movBRsAbs16 rs a) s 4 (eaAbs16 a) (s.reg8 rs) s.regs) ∧
    (∀ rs a, StoresByte (.movBRsAbs24 rs a) s 6 a (s.reg8 rs) s.regs) ∧
    (∀ rs n, StoresWord (.movWRsAtERd rs n) s 2 (s.eaAt n) (s.reg16 rs) s.regs) ∧
    (∀ rs d n, StoresWord (.movWRsD16ERd rs d n) s 4 (s.eaD16 d n) (s.reg16 rs) s.regs) ∧
    (∀ rs d n, StoresWord (.movWRsD24ERd rs d n) s 8 (s.eaD24 d n) (s.reg16 rs) s.regs) ∧
    (∀ rs a, StoresWord (.movWRsAbs16 rs a) s 4 (eaAbs16 a) (s.reg16 rs) s.regs) ∧
    (∀ rs a, StoresWord (.movWRsAbs24 rs a) s 6 a (s.reg16 rs) s.regs) ∧
    (∀ ers n, StoresLong (.movLERsAtERd ers n) s 4 (s.eaAt n) (s.er ers) s.regs) ∧
    (∀ ers d n, StoresLong (.movLERsD16ERd ers d n) s 6 (s.eaD16 d n) (s.er ers) s.regs) ∧
    (∀ ers d n, StoresLong (.movLERsD24ERd ers d n) s 10 (s.eaD24 d n) (s.er ers) s.regs) ∧
    (∀ ers a, StoresLong (.movLERsAbs16 ers a) s 6 (eaAbs16 a) (s.er ers) s.regs) ∧
    (∀ ers a, StoresLong (.movLERsAbs24 ers a) s 8 a (s.er ers) s.regs)

/-- MOV with @-ERd, and PUSH (R170, R177, R183, R188, R189, 30_encoding R113, R115): ERd is decremented by the size
first, the source register is read after that, the address is the low 24 bits of the new ERd; a longword is told to
devices in either order of its words (R87). Assumption 13. -/
def Obligations.StorePreDecrement : Prop :=
  ∀ s : State, s.undisturbed →
    (∀ rs n, let s1 := s.setEr n (s.er n - 1)
      StoresByte (.movBRsPreERd rs n) s 2 (low24 (s.er n - 1)) (s1.reg8 rs) s1.regs) ∧
    (∀ rs n, let s1 := s.setEr n (s.er n - 2)
      StoresWord (.movWRsPreERd rs n) s 2 (low24 (s.er n - 2)) (s1.reg16 rs) s1.regs) ∧
    (∀ ers n, let s1 := s.setEr n (s.er n - 4)
      StoresLongAnyOrder (.movLERsPreERd ers n) s 4 (low24 (s.er n - 4)) (s1.er ers) s1.regs) ∧
    (∀ rn, let s1 := s.setEr .er7 (s.er .er7 - 2)
      StoresWord (.pushWRn rn) s 2 (low24 (s.er .er7 - 2)) (s1.reg16 rn) s1.regs) ∧
    ∀ n, let s1 := s.setEr .er7 (s.er .er7 - 4)
      StoresLongAnyOrder (.pushLERn n) s 4 (low24 (s.er .er7 - 4)) (s1.er n) s1.regs

/-- MOVTPE with an E clock stores the byte like MOV.B Rs,@aa:16, its next word fetched before or after the store
(R191, 70_reset R572); without an E clock MOVFPE and MOVTPE are the faults of those names (R190, R191). The two faults
are the spec's decision D18, that both orders are possible assumption 12. -/
def Obligations.PeripheralTransfers : Prop :=
  ∀ s : State, s.undisturbed →
    (s.params.eClock = true → ∀ rs a, s.canFetch 4 → s.canWrite8 (eaAbs16 a) →
      let v := s.reg8 rs
      CompletesStoring (.movtpeRsAbs16 rs a) s (s.past 4) s.regs (s.ccrMoved v) (s.storedByte (eaAbs16 a) v) ∨
        ∃ u, s.SameControl u ∧ s.Stored u (s.storedByte (eaAbs16 a) v) ∧ u.regs = s.regs ∧ u.pc = s.pc ∧
          exec (.movtpeRsAbs16 rs a) s = .next { u.past 4 with ccr := s.ccrMoved v }) ∧
    (s.params.eClock = false → (∀ rs a, exec (.movtpeRsAbs16 rs a) s = .fault .movtpeWithoutEClock) ∧
      ∀ a rd, exec (.movfpeAbs16Rd a rd) s = .fault .movfpeWithoutEClock)

/-- ADD, SUB and CMP of every size (R201 to R206, R212 to R222): the sum or difference modulo the size, CCR by the
bitwise formulas of R200; CMP writes no register. -/
def Obligations.AddSubtractCompare : Prop :=
  ∀ s : State, s.undisturbed →
    (∀ v rd, WritesByteReg (.addBImm8Rd v rd) s 2 rd (s.reg8 rd + v)
      (s.ccrSum (s.reg8 rd) v (s.reg8 rd + v) (decide ((s.reg8 rd + v).toNat = 0)))) ∧
    (∀ rs rd, WritesByteReg (.addBRsRd rs rd) s 2 rd (s.reg8 rd + s.reg8 rs)
      (s.ccrSum (s.reg8 rd) (s.reg8 rs) (s.reg8 rd + s.reg8 rs) (decide ((s.reg8 rd + s.reg8 rs).toNat = 0)))) ∧
    (∀ v rd, WritesWordReg (.addWImm16Rd v rd) s 4 rd (s.reg16 rd + v)
      (s.ccrSum (s.reg16 rd) v (s.reg16 rd + v) (decide ((s.reg16 rd + v).toNat = 0)))) ∧
    (∀ rs rd, WritesWordReg (.addWRsRd rs rd) s 2 rd (s.reg16 rd + s.reg16 rs)
      (s.ccrSum (s.reg16 rd) (s.reg16 rs) (s.reg16 rd + s.reg16 rs) (decide ((s.reg16 rd + s.reg16 rs).toNat = 0)))) ∧
    (∀ v rd, WritesLongReg (.addLImm32ERd v rd) s 6 rd (s.er rd + v)
      (s.ccrSum (s.er rd) v (s.er rd + v) (decide ((s.er rd + v).toNat = 0)))) ∧
    (∀ rs rd, WritesLongReg (.addLERsERd rs rd) s 2 rd (s.er rd + s.er rs)
      (s.ccrSum (s.er rd) (s.er rs) (s.er rd + s.er rs) (decide ((s.er rd + s.er rs).toNat = 0)))) ∧
    (∀ rs rd, WritesByteReg (.subBRsRd rs rd) s 2 rd (s.reg8 rd - s.reg8 rs)
      (s.ccrDifference (s.reg8 rd) (s.reg8 rs) (s.reg8 rd - s.reg8 rs) (decide ((s.reg8 rd - s.reg8 rs).toNat = 0)))) ∧
    (∀ v rd, WritesWordReg (.subWImm16Rd v rd) s 4 rd (s.reg16 rd - v)
      (s.ccrDifference (s.reg16 rd) v (s.reg16 rd - v) (decide ((s.reg16 rd - v).toNat = 0)))) ∧
    (∀ rs rd, WritesWordReg (.subWRsRd rs rd) s 2 rd (s.reg16 rd - s.reg16 rs)
      (s.ccrDifference (s.reg16 rd) (s.reg16 rs) (s.reg16 rd - s.reg16 rs) (decide ((s.reg16 rd - s.reg16 rs).toNat = 0)))) ∧
    (∀ v rd, WritesLongReg (.subLImm32ERd v rd) s 6 rd (s.er rd - v)
      (s.ccrDifference (s.er rd) v (s.er rd - v) (decide ((s.er rd - v).toNat = 0)))) ∧
    (∀ rs rd, WritesLongReg (.subLERsERd rs rd) s 2 rd (s.er rd - s.er rs)
      (s.ccrDifference (s.er rd) (s.er rs) (s.er rd - s.er rs) (decide ((s.er rd - s.er rs).toNat = 0)))) ∧
    (∀ v rd, Completes (.cmpBImm8Rd v rd) s 2 s.regs
      (s.ccrDifference (s.reg8 rd) v (s.reg8 rd - v) (decide ((s.reg8 rd - v).toNat = 0)))) ∧
    (∀ rs rd, Completes (.cmpBRsRd rs rd) s 2 s.regs
      (s.ccrDifference (s.reg8 rd) (s.reg8 rs) (s.reg8 rd - s.reg8 rs) (decide ((s.reg8 rd - s.reg8 rs).toNat = 0)))) ∧
    (∀ v rd, Completes (.cmpWImm16Rd v rd) s 4 s.regs
      (s.ccrDifference (s.reg16 rd) v (s.reg16 rd - v) (decide ((s.reg16 rd - v).toNat = 0)))) ∧
    (∀ rs rd, Completes (.cmpWRsRd rs rd) s 2 s.regs
      (s.ccrDifference (s.reg16 rd) (s.reg16 rs) (s.reg16 rd - s.reg16 rs) (decide ((s.reg16 rd - s.reg16 rs).toNat = 0)))) ∧
    (∀ v rd, Completes (.cmpLImm32ERd v rd) s 6 s.regs
      (s.ccrDifference (s.er rd) v (s.er rd - v) (decide ((s.er rd - v).toNat = 0)))) ∧
    (∀ rs rd, Completes (.cmpLERsERd rs rd) s 2 s.regs
      (s.ccrDifference (s.er rd) (s.er rs) (s.er rd - s.er rs) (decide ((s.er rd - s.er rs).toNat = 0))))

/-- ADDX and SUBX take C in and can only clear Z (R210, R211, R226, R227, R44); ADDS and SUBS add or subtract 1, 2 or
4 over 32 bits and write no flag (R207 to R209, R223 to R225). -/
def Obligations.CarryAndAddressArithmetic : Prop :=
  ∀ s : State, s.undisturbed →
    (∀ v rd, let r := s.reg8 rd + v + BitVec.ofNat 8 (s.flag .c).toNat
      WritesByteReg (.addxImm8Rd v rd) s 2 rd r (s.ccrSum (s.reg8 rd) v r (s.flag .z && decide (r.toNat = 0)))) ∧
    (∀ v rd, let r := s.reg8 rd + s.reg8 v + BitVec.ofNat 8 (s.flag .c).toNat
      WritesByteReg (.addxRsRd v rd) s 2 rd r (s.ccrSum (s.reg8 rd) (s.reg8 v) r (s.flag .z && decide (r.toNat = 0)))) ∧
    (∀ v rd, let r := s.reg8 rd - v - BitVec.ofNat 8 (s.flag .c).toNat
      WritesByteReg (.subxImm8Rd v rd) s 2 rd r (s.ccrDifference (s.reg8 rd) v r (s.flag .z && decide (r.toNat = 0)))) ∧
    (∀ v rd, let r := s.reg8 rd - s.reg8 v - BitVec.ofNat 8 (s.flag .c).toNat
      WritesByteReg (.subxRsRd v rd) s 2 rd r (s.ccrDifference (s.reg8 rd) (s.reg8 v) r (s.flag .z && decide (r.toNat = 0)))) ∧
    (∀ n, WritesLongReg (.addsOneERd n) s 2 n (s.er n + 1) s.ccr) ∧
    (∀ n, WritesLongReg (.addsTwoERd n) s 2 n (s.er n + 2) s.ccr) ∧
    (∀ n, WritesLongReg (.addsFourERd n) s 2 n (s.er n + 4) s.ccr) ∧
    (∀ n, WritesLongReg (.subsOneERd n) s 2 n (s.er n - 1) s.ccr) ∧
    (∀ n, WritesLongReg (.subsTwoERd n) s 2 n (s.er n - 2) s.ccr) ∧
    (∀ n, WritesLongReg (.subsFourERd n) s 2 n (s.er n - 4) s.ccr)

/-- INC, DEC and NEG of every size (R230 to R242), CCR by the formulas of R200: INC and DEC leave C and H. -/
def Obligations.IncrementDecrementNegate : Prop :=
  ∀ s : State, s.undisturbed →
    (∀ rd, WritesByteReg (.incBRd rd) s 2 rd (s.reg8 rd + 1) (s.ccrIncremented (s.reg8 rd) (s.reg8 rd + 1))) ∧
    (∀ rd, WritesWordReg (.incWOneRd rd) s 2 rd (s.reg16 rd + 1)
      (s.ccrIncremented (s.reg16 rd) (s.reg16 rd + 1))) ∧
    (∀ n, WritesLongReg (.incLOneERd n) s 2 n (s.er n + 1) (s.ccrIncremented (s.er n) (s.er n + 1))) ∧
    (∀ rd, WritesWordReg (.incWTwoRd rd) s 2 rd (s.reg16 rd + 2)
      (s.ccrIncremented (s.reg16 rd) (s.reg16 rd + 2))) ∧
    (∀ n, WritesLongReg (.incLTwoERd n) s 2 n (s.er n + 2) (s.ccrIncremented (s.er n) (s.er n + 2))) ∧
    (∀ rd, WritesByteReg (.decBRd rd) s 2 rd (s.reg8 rd - 1) (s.ccrDecremented (s.reg8 rd) (s.reg8 rd - 1))) ∧
    (∀ rd, WritesWordReg (.decWOneRd rd) s 2 rd (s.reg16 rd - 1)
      (s.ccrDecremented (s.reg16 rd) (s.reg16 rd - 1))) ∧
    (∀ n, WritesLongReg (.decLOneERd n) s 2 n (s.er n - 1) (s.ccrDecremented (s.er n) (s.er n - 1))) ∧
    (∀ rd, WritesWordReg (.decWTwoRd rd) s 2 rd (s.reg16 rd - 2)
      (s.ccrDecremented (s.reg16 rd) (s.reg16 rd - 2))) ∧
    (∀ n, WritesLongReg (.decLTwoERd n) s 2 n (s.er n - 2) (s.ccrDecremented (s.er n) (s.er n - 2))) ∧
    (∀ rd, WritesByteReg (.negBRd rd) s 2 rd (-s.reg8 rd) (s.ccrNegated (s.reg8 rd) (-s.reg8 rd))) ∧
    (∀ rd, WritesWordReg (.negWRd rd) s 2 rd (-s.reg16 rd) (s.ccrNegated (s.reg16 rd) (-s.reg16 rd))) ∧
    (∀ n, WritesLongReg (.negLERd n) s 2 n (-s.er n) (s.ccrNegated (s.er n) (-s.er n)))

/-- DAA and DAS complete on every operand and write Reg8(rd) and H, N, Z, V, C alone; on a row of the table the
register takes the adjusted value, N and Z are its, C is the table's (DAS: stays), H and V are any; off the table all
are any (R228, R229). The rows with C = 1 follow the spec's reading (90_conflicts C27, assumption 20). -/
def Obligations.DecimalAdjust : Prop :=
  ∀ (s : State) (rd : R8), s.undisturbed → s.canFetch 2 →
    let d := (s.reg8 rd).toNat
    (∃ r h n z v c, exec (.daaRd rd) s = .next (s.fallThrough 2 (s.setReg8 rd r).regs (s.ccrHNZVC h n z v c)) ∧
      ∀ added carry,
        (s.flag .c = false ∧ s.flag .h = false ∧ d / 16 ≤ 9 ∧ d % 16 ≤ 9 ∧ added = 0 ∧ carry = false) ∨
        (s.flag .c = false ∧ s.flag .h = false ∧ d / 16 ≤ 8 ∧ 10 ≤ d % 16 ∧ added = 6 ∧ carry = false) ∨
        (s.flag .c = false ∧ s.flag .h = true ∧ d / 16 ≤ 9 ∧ d % 16 ≤ 3 ∧ added = 6 ∧ carry = false) ∨
        (s.flag .c = false ∧ s.flag .h = false ∧ 10 ≤ d / 16 ∧ d % 16 ≤ 9 ∧ added = 0x60 ∧ carry = true) ∨
        (s.flag .c = false ∧ s.flag .h = false ∧ 9 ≤ d / 16 ∧ 10 ≤ d % 16 ∧ added = 0x66 ∧ carry = true) ∨
        (s.flag .c = false ∧ s.flag .h = true ∧ 10 ≤ d / 16 ∧ d % 16 ≤ 3 ∧ added = 0x66 ∧ carry = true) ∨
        (s.flag .c = true ∧ s.flag .h = false ∧ d / 16 ≤ 2 ∧ d % 16 ≤ 9 ∧ added = 0x60 ∧ carry = true) ∨
        (s.flag .c = true ∧ s.flag .h = false ∧ d / 16 ≤ 2 ∧ 10 ≤ d % 16 ∧ added = 0x66 ∧ carry = true) ∨
        (s.flag .c = true ∧ s.flag .h = true ∧ d / 16 ≤ 3 ∧ d % 16 ≤ 3 ∧ added = 0x66 ∧ carry = true) →
        r.toNat = (d + added) % 256 ∧ n = r.msb ∧ z = decide (r.toNat = 0) ∧ c = carry) ∧
    ∃ r h n z v c, exec (.dasRd rd) s = .next (s.fallThrough 2 (s.setReg8 rd r).regs (s.ccrHNZVC h n z v c)) ∧
      ∀ added,
        (s.flag .c = false ∧ s.flag .h = false ∧ d / 16 ≤ 9 ∧ d % 16 ≤ 9 ∧ added = 0) ∨
        (s.flag .c = false ∧ s.flag .h = true ∧ d / 16 ≤ 8 ∧ 6 ≤ d % 16 ∧ added = 0xFA) ∨
        (s.flag .c = true ∧ s.flag .h = false ∧ 7 ≤ d / 16 ∧ d % 16 ≤ 9 ∧ added = 0xA0) ∨
        (s.flag .c = true ∧ s.flag .h = true ∧ 6 ≤ d / 16 ∧ 6 ≤ d % 16 ∧ added = 0x9A) →
        r.toNat = (d + added) % 256 ∧ n = r.msb ∧ z = decide (r.toNat = 0) ∧ c = s.flag .c

/-- ADD.B or ADDX of two packed BCD bytes followed by DAA gives the decimal sum modulo 100 and its carry in C; SUB.B
followed by DAS gives the decimal difference modulo 100 and its borrow (R228, R229). The rows of the DAA table with C
= 1, and so a decimal sum whose binary sum carries out (80 + 80), are the model's choice: assumption 20, after the
spec's reading in 90_conflicts C27. -/
def Obligations.DecimalAddition : Prop :=
  ∀ (s : State) (rs rd : R8) (x y : Nat), s.undisturbed → s.readsComplete → x < 100 → y < 100 →
    (s.reg8 rd).toNat = 16 * (x / 10) + x % 10 → (s.reg8 rs).toNat = 16 * (y / 10) + y % 10 →
    (∃ t u, exec (.addBRsRd rs rd) s = .next t ∧ exec (.daaRd rd) t = .next u ∧
      (u.reg8 rd).toNat = 16 * ((x + y) % 100 / 10) + (x + y) % 10 ∧ u.flag .c = decide (100 ≤ x + y)) ∧
    (∃ t u, exec (.addxRsRd rs rd) s = .next t ∧ exec (.daaRd rd) t = .next u ∧
      let n := x + y + (s.flag .c).toNat
      (u.reg8 rd).toNat = 16 * (n % 100 / 10) + n % 10 ∧ u.flag .c = decide (100 ≤ n)) ∧
    ∃ t u, exec (.subBRsRd rs rd) s = .next t ∧ exec (.dasRd rd) t = .next u ∧
      (u.reg8 rd).toNat = 16 * ((100 + x - y) % 100 / 10) + (100 + x - y) % 10 ∧ u.flag .c = decide (x < y)

/-- EXTU clears the upper half and N; EXTS copies the sign of the lower half into the upper (R243 to R246). -/
def Obligations.ExtendRegister : Prop :=
  ∀ s : State, s.undisturbed →
    (∀ rd, let r : Word := ((s.reg16 rd).extractLsb' 0 8).zeroExtend 16
      WritesWordReg (.extuWRd rd) s 2 rd r (s.ccrNZVC false (decide (r.toNat = 0)) false (s.flag .c))) ∧
    (∀ n, let r : Long := ((s.er n).extractLsb' 0 16).zeroExtend 32
      WritesLongReg (.extuLERd n) s 2 n r (s.ccrNZVC false (decide (r.toNat = 0)) false (s.flag .c))) ∧
    (∀ rd, let r : Word := ((s.reg16 rd).extractLsb' 0 8).signExtend 16
      WritesWordReg (.extsWRd rd) s 2 rd r (s.ccrMoved r)) ∧
    (∀ n, let r : Long := ((s.er n).extractLsb' 0 16).signExtend 32
      WritesLongReg (.extsLERd n) s 2 n r (s.ccrMoved r))

/-- MULXU and MULXS give the exact double-width product of the low half of the destination and the source; MULXU
writes no flag, MULXS N and Z of the product (R247 to R250). -/
def Obligations.MultiplyExact : Prop :=
  ∀ s : State, s.undisturbed →
    (∀ rs rd, s.canFetch 2 → ∃ p : Word, p.toNat = ((s.reg16 rd).extractLsb' 0 8).toNat * (s.reg8 rs).toNat ∧
      exec (.mulxuBRsRd rs rd) s = .next (s.fallThrough 2 (s.setReg16 rd p).regs s.ccr)) ∧
    (∀ rs n, s.canFetch 2 → ∃ p : Long, p.toNat = ((s.er n).extractLsb' 0 16).toNat * (s.reg16 rs).toNat ∧
      exec (.mulxuWRsERd rs n) s = .next (s.fallThrough 2 (s.setEr n p).regs s.ccr)) ∧
    (∀ rs rd, s.canFetch 4 → ∃ p : Word, p.toInt = ((s.reg16 rd).extractLsb' 0 8).toInt * (s.reg8 rs).toInt ∧
      exec (.mulxsBRsRd rs rd) s = .next (s.fallThrough 4 (s.setReg16 rd p).regs
        (s.ccrNZVC p.msb (decide (p.toNat = 0)) (s.flag .v) (s.flag .c)))) ∧
    (∀ rs n, s.canFetch 4 → ∃ p : Long, p.toInt = ((s.er n).extractLsb' 0 16).toInt * (s.reg16 rs).toInt ∧
      exec (.mulxsWRsERd rs n) s = .next (s.fallThrough 4 (s.setEr n p).regs
        (s.ccrNZVC p.msb (decide (p.toNat = 0)) (s.flag .v) (s.flag .c))))

/-- DIVXU and DIVXS with a divisor that is not 0 and a quotient that fits: remainder in the upper half, quotient in
the lower, D = q·S + rem with |rem| < |S| and the sign of D; N and Z from the operands (R251 to R254, R259). -/
def Obligations.DivideExact : Prop :=
  ∀ s : State, s.undisturbed →
    (∀ rs rd, let d := s.reg16 rd; let x := s.reg8 rs
      s.canFetch 2 → x.toNat ≠ 0 → d.toNat / x.toNat < 2 ^ 8 →
      ∃ rem q : Byte, d.toNat = q.toNat * x.toNat + rem.toNat ∧ rem.toNat < x.toNat ∧
        exec (.divxuBRsRd rs rd) s = .next (s.fallThrough 2 (s.setReg16 rd (rem ++ q)).regs
          (s.ccrNZVC x.msb false (s.flag .v) (s.flag .c)))) ∧
    (∀ rs n, let d := s.er n; let x := s.reg16 rs
      s.canFetch 2 → x.toNat ≠ 0 → d.toNat / x.toNat < 2 ^ 16 →
      ∃ rem q : Word, d.toNat = q.toNat * x.toNat + rem.toNat ∧ rem.toNat < x.toNat ∧
        exec (.divxuWRsERd rs n) s = .next (s.fallThrough 2 (s.setEr n (rem ++ q)).regs
          (s.ccrNZVC x.msb false (s.flag .v) (s.flag .c)))) ∧
    (∀ rs rd, let d := s.reg16 rd; let x := s.reg8 rs
      s.canFetch 4 → x.toInt ≠ 0 → -2 ^ 7 ≤ d.toInt.tdiv x.toInt → d.toInt.tdiv x.toInt < 2 ^ 7 →
      ∃ rem q : Byte, d.toInt = q.toInt * x.toInt + rem.toInt ∧ rem.toInt.natAbs < x.toInt.natAbs ∧
        (rem.toInt = 0 ∨ (rem.toInt < 0 ↔ d.toInt < 0)) ∧
        exec (.divxsBRsRd rs rd) s = .next (s.fallThrough 4 (s.setReg16 rd (rem ++ q)).regs
          (s.ccrNZVC (d.msb ^^ x.msb) false (s.flag .v) (s.flag .c)))) ∧
    ∀ rs n, let d := s.er n; let x := s.reg16 rs
      s.canFetch 4 → x.toInt ≠ 0 → -2 ^ 15 ≤ d.toInt.tdiv x.toInt → d.toInt.tdiv x.toInt < 2 ^ 15 →
      ∃ rem q : Word, d.toInt = q.toInt * x.toInt + rem.toInt ∧ rem.toInt.natAbs < x.toInt.natAbs ∧
        (rem.toInt = 0 ∨ (rem.toInt < 0 ↔ d.toInt < 0)) ∧
        exec (.divxsWRsERd rs n) s = .next (s.fallThrough 4 (s.setEr n (rem ++ q)).regs
          (s.ccrNZVC (d.msb ^^ x.msb) false (s.flag .v) (s.flag .c)))

/-- Every divide completes on every operand, divisor 0 and overflow included: some value in the destination register,
N and Z from the operands, nothing else changed (R255, R256). Assumption 22. -/
def Obligations.DivideNeverTraps : Prop :=
  ∀ s : State, s.undisturbed →
    (∀ rs rd, s.canFetch 2 → ∃ x, exec (.divxuBRsRd rs rd) s = .next (s.fallThrough 2 (s.setReg16 rd x).regs
      (s.ccrNZVC (s.reg8 rs).msb (decide ((s.reg8 rs).toNat = 0)) (s.flag .v) (s.flag .c)))) ∧
    (∀ rs n, s.canFetch 2 → ∃ x, exec (.divxuWRsERd rs n) s = .next (s.fallThrough 2 (s.setEr n x).regs
      (s.ccrNZVC (s.reg16 rs).msb (decide ((s.reg16 rs).toNat = 0)) (s.flag .v) (s.flag .c)))) ∧
    (∀ rs rd, s.canFetch 4 → ∃ x, exec (.divxsBRsRd rs rd) s = .next (s.fallThrough 4 (s.setReg16 rd x).regs
      (s.ccrNZVC ((s.reg16 rd).msb ^^ (s.reg8 rs).msb) (decide ((s.reg8 rs).toNat = 0)) (s.flag .v) (s.flag .c)))) ∧
    ∀ rs n, s.canFetch 4 → ∃ x, exec (.divxsWRsERd rs n) s = .next (s.fallThrough 4 (s.setEr n x).regs
      (s.ccrNZVC ((s.er n).msb ^^ (s.reg16 rs).msb) (decide ((s.reg16 rs).toNat = 0)) (s.flag .v) (s.flag .c)))

/-- AND, OR, XOR and NOT of every size: every bit of the result is the operation on the bits of the operands; N and Z
from the result, V = 0, H, C, I, UI and U unchanged, nothing else written (R280 to R301). -/
def Obligations.LogicBitwise : Prop :=
  ∀ s : State, s.undisturbed →
    (∀ v rd, BitwiseByte (.andBImm8Rd v rd) s 2 rd v and) ∧
    (∀ rs rd, BitwiseByte (.andBRsRd rs rd) s 2 rd (s.reg8 rs) and) ∧
    (∀ v rd, BitwiseWord (.andWImm16Rd v rd) s 4 rd v and) ∧
    (∀ rs rd, BitwiseWord (.andWRsRd rs rd) s 2 rd (s.reg16 rs) and) ∧
    (∀ v n, BitwiseLong (.andLImm32ERd v n) s 6 n v and) ∧
    (∀ m n, BitwiseLong (.andLERsERd m n) s 4 n (s.er m) and) ∧
    (∀ v rd, BitwiseByte (.orBImm8Rd v rd) s 2 rd v or) ∧
    (∀ rs rd, BitwiseByte (.orBRsRd rs rd) s 2 rd (s.reg8 rs) or) ∧
    (∀ v rd, BitwiseWord (.orWImm16Rd v rd) s 4 rd v or) ∧
    (∀ rs rd, BitwiseWord (.orWRsRd rs rd) s 2 rd (s.reg16 rs) or) ∧
    (∀ v n, BitwiseLong (.orLImm32ERd v n) s 6 n v or) ∧
    (∀ m n, BitwiseLong (.orLERsERd m n) s 4 n (s.er m) or) ∧
    (∀ v rd, BitwiseByte (.xorBImm8Rd v rd) s 2 rd v xor) ∧
    (∀ rs rd, BitwiseByte (.xorBRsRd rs rd) s 2 rd (s.reg8 rs) xor) ∧
    (∀ v rd, BitwiseWord (.xorWImm16Rd v rd) s 4 rd v xor) ∧
    (∀ rs rd, BitwiseWord (.xorWRsRd rs rd) s 2 rd (s.reg16 rs) xor) ∧
    (∀ v n, BitwiseLong (.xorLImm32ERd v n) s 6 n v xor) ∧
    (∀ m n, BitwiseLong (.xorLERsERd m n) s 4 n (s.er m) xor) ∧
    (∀ rd, BitwiseByte (.notBRd rd) s 2 rd 0 fun d _ => !d) ∧
    (∀ rd, BitwiseWord (.notWRd rd) s 2 rd 0 fun d _ => !d) ∧
    (∀ n, BitwiseLong (.notLERd n) s 2 n 0 fun d _ => !d)

/-- The table of R302: SHAL, SHLL, SHAR, SHLR, ROTL, ROTR, ROTXL and ROTXR of every size move every bit by one place,
the bit shifted in and C as given; V is the change of sign for SHAL, else 0; H, I, UI, U and all else stay. -/
def Obligations.ShiftRotateTable : Prop :=
  ∀ s : State, s.undisturbed →
    (∀ rd, let r := shiftedLeft (s.reg8 rd) false
      WritesByteReg (.shalBRd rd) s 2 rd r (s.ccrNZVC r.msb (decide (r.toNat = 0)) ((s.reg8 rd).msb ^^ (s.reg8 rd).getLsbD (6)) (s.reg8 rd).msb)) ∧
    (∀ rd, let r := shiftedLeft (s.reg16 rd) false
      WritesWordReg (.shalWRd rd) s 2 rd r (s.ccrNZVC r.msb (decide (r.toNat = 0)) ((s.reg16 rd).msb ^^ (s.reg16 rd).getLsbD (14)) (s.reg16 rd).msb)) ∧
    (∀ n, let r := shiftedLeft (s.er n) false
      WritesLongReg (.shalLERd n) s 2 n r (s.ccrNZVC r.msb (decide (r.toNat = 0)) ((s.er n).msb ^^ (s.er n).getLsbD (30)) (s.er n).msb)) ∧
    (∀ rd, let r := shiftedLeft (s.reg8 rd) false
      WritesByteReg (.shllBRd rd) s 2 rd r (s.ccrNZVC r.msb (decide (r.toNat = 0)) false (s.reg8 rd).msb)) ∧
    (∀ rd, let r := shiftedLeft (s.reg16 rd) false
      WritesWordReg (.shllWRd rd) s 2 rd r (s.ccrNZVC r.msb (decide (r.toNat = 0)) false (s.reg16 rd).msb)) ∧
    (∀ n, let r := shiftedLeft (s.er n) false
      WritesLongReg (.shllLERd n) s 2 n r (s.ccrNZVC r.msb (decide (r.toNat = 0)) false (s.er n).msb)) ∧
    (∀ rd, let r := shiftedLeft (s.reg8 rd) (s.reg8 rd).msb
      WritesByteReg (.rotlBRd rd) s 2 rd r (s.ccrNZVC r.msb (decide (r.toNat = 0)) false (s.reg8 rd).msb)) ∧
    (∀ rd, let r := shiftedLeft (s.reg16 rd) (s.reg16 rd).msb
      WritesWordReg (.rotlWRd rd) s 2 rd r (s.ccrNZVC r.msb (decide (r.toNat = 0)) false (s.reg16 rd).msb)) ∧
    (∀ n, let r := shiftedLeft (s.er n) (s.er n).msb
      WritesLongReg (.rotlLERd n) s 2 n r (s.ccrNZVC r.msb (decide (r.toNat = 0)) false (s.er n).msb)) ∧
    (∀ rd, let r := shiftedLeft (s.reg8 rd) (s.flag .c)
      WritesByteReg (.rotxlBRd rd) s 2 rd r (s.ccrNZVC r.msb (decide (r.toNat = 0)) false (s.reg8 rd).msb)) ∧
    (∀ rd, let r := shiftedLeft (s.reg16 rd) (s.flag .c)
      WritesWordReg (.rotxlWRd rd) s 2 rd r (s.ccrNZVC r.msb (decide (r.toNat = 0)) false (s.reg16 rd).msb)) ∧
    (∀ n, let r := shiftedLeft (s.er n) (s.flag .c)
      WritesLongReg (.rotxlLERd n) s 2 n r (s.ccrNZVC r.msb (decide (r.toNat = 0)) false (s.er n).msb)) ∧
    (∀ rd, let r := shiftedRight (s.reg8 rd) (s.reg8 rd).msb
      WritesByteReg (.sharBRd rd) s 2 rd r (s.ccrNZVC r.msb (decide (r.toNat = 0)) false ((s.reg8 rd).getLsbD 0))) ∧
    (∀ rd, let r := shiftedRight (s.reg16 rd) (s.reg16 rd).msb
      WritesWordReg (.sharWRd rd) s 2 rd r (s.ccrNZVC r.msb (decide (r.toNat = 0)) false ((s.reg16 rd).getLsbD 0))) ∧
    (∀ n, let r := shiftedRight (s.er n) (s.er n).msb
      WritesLongReg (.sharLERd n) s 2 n r (s.ccrNZVC r.msb (decide (r.toNat = 0)) false ((s.er n).getLsbD 0))) ∧
    (∀ rd, let r := shiftedRight (s.reg8 rd) false
      WritesByteReg (.shlrBRd rd) s 2 rd r (s.ccrNZVC r.msb (decide (r.toNat = 0)) false ((s.reg8 rd).getLsbD 0))) ∧
    (∀ rd, let r := shiftedRight (s.reg16 rd) false
      WritesWordReg (.shlrWRd rd) s 2 rd r (s.ccrNZVC r.msb (decide (r.toNat = 0)) false ((s.reg16 rd).getLsbD 0))) ∧
    (∀ n, let r := shiftedRight (s.er n) false
      WritesLongReg (.shlrLERd n) s 2 n r (s.ccrNZVC r.msb (decide (r.toNat = 0)) false ((s.er n).getLsbD 0))) ∧
    (∀ rd, let r := shiftedRight (s.reg8 rd) ((s.reg8 rd).getLsbD 0)
      WritesByteReg (.rotrBRd rd) s 2 rd r (s.ccrNZVC r.msb (decide (r.toNat = 0)) false ((s.reg8 rd).getLsbD 0))) ∧
    (∀ rd, let r := shiftedRight (s.reg16 rd) ((s.reg16 rd).getLsbD 0)
      WritesWordReg (.rotrWRd rd) s 2 rd r (s.ccrNZVC r.msb (decide (r.toNat = 0)) false ((s.reg16 rd).getLsbD 0))) ∧
    (∀ n, let r := shiftedRight (s.er n) ((s.er n).getLsbD 0)
      WritesLongReg (.rotrLERd n) s 2 n r (s.ccrNZVC r.msb (decide (r.toNat = 0)) false ((s.er n).getLsbD 0))) ∧
    (∀ rd, let r := shiftedRight (s.reg8 rd) (s.flag .c)
      WritesByteReg (.rotxrBRd rd) s 2 rd r (s.ccrNZVC r.msb (decide (r.toNat = 0)) false ((s.reg8 rd).getLsbD 0))) ∧
    (∀ rd, let r := shiftedRight (s.reg16 rd) (s.flag .c)
      WritesWordReg (.rotxrWRd rd) s 2 rd r (s.ccrNZVC r.msb (decide (r.toNat = 0)) false ((s.reg16 rd).getLsbD 0))) ∧
    (∀ n, let r := shiftedRight (s.er n) (s.flag .c)
      WritesLongReg (.rotxrLERd n) s 2 n r (s.ccrNZVC r.msb (decide (r.toNat = 0)) false ((s.er n).getLsbD 0)))

/-- BSET, BCLR, BNOT, BST and BIST on a register or memory byte (R343 to R345, R355, R356): bit n becomes 1, 0, its
inverse, C or the inverse of C; the other seven bits are written back as read; no flag changes (R357). -/
def Obligations.BitRewrite : Prop :=
  ∀ s : State, s.undisturbed →
    (∀ n rd, RewritesReg (.bsetImm3Rd n rd) s rd (withBit n true)) ∧
    (∀ rn rd, RewritesReg (.bsetRnRd rn rd) s rd (withBit (s.lowBits rn) true)) ∧
    (∀ n rd, RewritesReg (.bclrImm3Rd n rd) s rd (withBit n false)) ∧
    (∀ rn rd, RewritesReg (.bclrRnRd rn rd) s rd (withBit (s.lowBits rn) false)) ∧
    (∀ n rd, RewritesReg (.bnotImm3Rd n rd) s rd (withBitInverted n)) ∧
    (∀ rn rd, RewritesReg (.bnotRnRd rn rd) s rd (withBitInverted (s.lowBits rn))) ∧
    (∀ n rd, RewritesReg (.bstImm3Rd n rd) s rd (withBit n (s.flag .c))) ∧
    (∀ n rd, RewritesReg (.bistImm3Rd n rd) s rd (withBit n (!s.flag .c))) ∧
    (∀ n erd, RewritesMem (.bsetImm3AtERd n erd) s (s.eaAt erd) (withBit n true)) ∧
    (∀ n a, RewritesMem (.bsetImm3Abs8 n a) s (eaAbs8 a) (withBit n true)) ∧
    (∀ rn erd, RewritesMem (.bsetRnAtERd rn erd) s (s.eaAt erd) (withBit (s.lowBits rn) true)) ∧
    (∀ rn a, RewritesMem (.bsetRnAbs8 rn a) s (eaAbs8 a) (withBit (s.lowBits rn) true)) ∧
    (∀ n erd, RewritesMem (.bclrImm3AtERd n erd) s (s.eaAt erd) (withBit n false)) ∧
    (∀ n a, RewritesMem (.bclrImm3Abs8 n a) s (eaAbs8 a) (withBit n false)) ∧
    (∀ rn erd, RewritesMem (.bclrRnAtERd rn erd) s (s.eaAt erd) (withBit (s.lowBits rn) false)) ∧
    (∀ rn a, RewritesMem (.bclrRnAbs8 rn a) s (eaAbs8 a) (withBit (s.lowBits rn) false)) ∧
    (∀ n erd, RewritesMem (.bnotImm3AtERd n erd) s (s.eaAt erd) (withBitInverted n)) ∧
    (∀ n a, RewritesMem (.bnotImm3Abs8 n a) s (eaAbs8 a) (withBitInverted n)) ∧
    (∀ rn erd, RewritesMem (.bnotRnAtERd rn erd) s (s.eaAt erd) (withBitInverted (s.lowBits rn))) ∧
    (∀ rn a, RewritesMem (.bnotRnAbs8 rn a) s (eaAbs8 a) (withBitInverted (s.lowBits rn))) ∧
    (∀ n erd, RewritesMem (.bstImm3AtERd n erd) s (s.eaAt erd) (withBit n (s.flag .c))) ∧
    (∀ n a, RewritesMem (.bstImm3Abs8 n a) s (eaAbs8 a) (withBit n (s.flag .c))) ∧
    (∀ n erd, RewritesMem (.bistImm3AtERd n erd) s (s.eaAt erd) (withBit n (!s.flag .c))) ∧
    (∀ n a, RewritesMem (.bistImm3Abs8 n a) s (eaAbs8 a) (withBit n (!s.flag .c)))

/-- BTST makes Z the inverse of bit n; BAND, BIAND, BOR, BIOR, BXOR, BIXOR, BLD and BILD make C from C and bit n or
its inverse; no other flag, no register and no memory byte changes (R346 to R354, R357). -/
def Obligations.BitTestAndCarry : Prop :=
  ∀ s : State, s.undisturbed →
    (∀ n rd, TestsReg (.btstImm3Rd n rd) s rd (fun v => s.ccrNZVC (s.flag .n) (!v.getLsbD n.toNat) (s.flag .v) (s.flag .c))) ∧
    (∀ n erd, TestsMem (.btstImm3AtERd n erd) s (s.eaAt erd) (fun v => s.ccrNZVC (s.flag .n) (!v.getLsbD n.toNat) (s.flag .v) (s.flag .c))) ∧
    (∀ n a, TestsMem (.btstImm3Abs8 n a) s (eaAbs8 a) (fun v => s.ccrNZVC (s.flag .n) (!v.getLsbD n.toNat) (s.flag .v) (s.flag .c))) ∧
    (∀ rn rd, TestsReg (.btstRnRd rn rd) s rd (fun v => s.ccrNZVC (s.flag .n) (!v.getLsbD (s.lowBits rn).toNat) (s.flag .v) (s.flag .c))) ∧
    (∀ rn erd, TestsMem (.btstRnAtERd rn erd) s (s.eaAt erd) (fun v => s.ccrNZVC (s.flag .n) (!v.getLsbD (s.lowBits rn).toNat) (s.flag .v) (s.flag .c))) ∧
    (∀ rn a, TestsMem (.btstRnAbs8 rn a) s (eaAbs8 a) (fun v => s.ccrNZVC (s.flag .n) (!v.getLsbD (s.lowBits rn).toNat) (s.flag .v) (s.flag .c))) ∧
    (∀ n rd, TestsReg (.bandImm3Rd n rd) s rd (fun v => s.ccrNZVC (s.flag .n) (s.flag .z) (s.flag .v) (s.flag .c && v.getLsbD n.toNat))) ∧
    (∀ n erd, TestsMem (.bandImm3AtERd n erd) s (s.eaAt erd) (fun v => s.ccrNZVC (s.flag .n) (s.flag .z) (s.flag .v) (s.flag .c && v.getLsbD n.toNat))) ∧
    (∀ n a, TestsMem (.bandImm3Abs8 n a) s (eaAbs8 a) (fun v => s.ccrNZVC (s.flag .n) (s.flag .z) (s.flag .v) (s.flag .c && v.getLsbD n.toNat))) ∧
    (∀ n rd, TestsReg (.biandImm3Rd n rd) s rd (fun v => s.ccrNZVC (s.flag .n) (s.flag .z) (s.flag .v) (s.flag .c && !v.getLsbD n.toNat))) ∧
    (∀ n erd, TestsMem (.biandImm3AtERd n erd) s (s.eaAt erd) (fun v => s.ccrNZVC (s.flag .n) (s.flag .z) (s.flag .v) (s.flag .c && !v.getLsbD n.toNat))) ∧
    (∀ n a, TestsMem (.biandImm3Abs8 n a) s (eaAbs8 a) (fun v => s.ccrNZVC (s.flag .n) (s.flag .z) (s.flag .v) (s.flag .c && !v.getLsbD n.toNat))) ∧
    (∀ n rd, TestsReg (.borImm3Rd n rd) s rd (fun v => s.ccrNZVC (s.flag .n) (s.flag .z) (s.flag .v) (s.flag .c || v.getLsbD n.toNat))) ∧
    (∀ n erd, TestsMem (.borImm3AtERd n erd) s (s.eaAt erd) (fun v => s.ccrNZVC (s.flag .n) (s.flag .z) (s.flag .v) (s.flag .c || v.getLsbD n.toNat))) ∧
    (∀ n a, TestsMem (.borImm3Abs8 n a) s (eaAbs8 a) (fun v => s.ccrNZVC (s.flag .n) (s.flag .z) (s.flag .v) (s.flag .c || v.getLsbD n.toNat))) ∧
    (∀ n rd, TestsReg (.biorImm3Rd n rd) s rd (fun v => s.ccrNZVC (s.flag .n) (s.flag .z) (s.flag .v) (s.flag .c || !v.getLsbD n.toNat))) ∧
    (∀ n erd, TestsMem (.biorImm3AtERd n erd) s (s.eaAt erd) (fun v => s.ccrNZVC (s.flag .n) (s.flag .z) (s.flag .v) (s.flag .c || !v.getLsbD n.toNat))) ∧
    (∀ n a, TestsMem (.biorImm3Abs8 n a) s (eaAbs8 a) (fun v => s.ccrNZVC (s.flag .n) (s.flag .z) (s.flag .v) (s.flag .c || !v.getLsbD n.toNat))) ∧
    (∀ n rd, TestsReg (.bxorImm3Rd n rd) s rd (fun v => s.ccrNZVC (s.flag .n) (s.flag .z) (s.flag .v) (s.flag .c ^^ v.getLsbD n.toNat))) ∧
    (∀ n erd, TestsMem (.bxorImm3AtERd n erd) s (s.eaAt erd) (fun v => s.ccrNZVC (s.flag .n) (s.flag .z) (s.flag .v) (s.flag .c ^^ v.getLsbD n.toNat))) ∧
    (∀ n a, TestsMem (.bxorImm3Abs8 n a) s (eaAbs8 a) (fun v => s.ccrNZVC (s.flag .n) (s.flag .z) (s.flag .v) (s.flag .c ^^ v.getLsbD n.toNat))) ∧
    (∀ n rd, TestsReg (.bixorImm3Rd n rd) s rd (fun v => s.ccrNZVC (s.flag .n) (s.flag .z) (s.flag .v) (!(s.flag .c ^^ v.getLsbD n.toNat)))) ∧
    (∀ n erd, TestsMem (.bixorImm3AtERd n erd) s (s.eaAt erd) (fun v => s.ccrNZVC (s.flag .n) (s.flag .z) (s.flag .v) (!(s.flag .c ^^ v.getLsbD n.toNat)))) ∧
    (∀ n a, TestsMem (.bixorImm3Abs8 n a) s (eaAbs8 a) (fun v => s.ccrNZVC (s.flag .n) (s.flag .z) (s.flag .v) (!(s.flag .c ^^ v.getLsbD n.toNat)))) ∧
    (∀ n rd, TestsReg (.bldImm3Rd n rd) s rd (fun v => s.ccrNZVC (s.flag .n) (s.flag .z) (s.flag .v) (v.getLsbD n.toNat))) ∧
    (∀ n erd, TestsMem (.bldImm3AtERd n erd) s (s.eaAt erd) (fun v => s.ccrNZVC (s.flag .n) (s.flag .z) (s.flag .v) (v.getLsbD n.toNat))) ∧
    (∀ n a, TestsMem (.bldImm3Abs8 n a) s (eaAbs8 a) (fun v => s.ccrNZVC (s.flag .n) (s.flag .z) (s.flag .v) (v.getLsbD n.toNat))) ∧
    (∀ n rd, TestsReg (.bildImm3Rd n rd) s rd (fun v => s.ccrNZVC (s.flag .n) (s.flag .z) (s.flag .v) (!v.getLsbD n.toNat))) ∧
    (∀ n erd, TestsMem (.bildImm3AtERd n erd) s (s.eaAt erd) (fun v => s.ccrNZVC (s.flag .n) (s.flag .z) (s.flag .v) (!v.getLsbD n.toNat))) ∧
    (∀ n a, TestsMem (.bildImm3Abs8 n a) s (eaAbs8 a) (fun v => s.ccrNZVC (s.flag .n) (s.flag .z) (s.flag .v) (!v.getLsbD n.toNat)))

/-- Bcc for all sixteen conditions (R401 to R403): PC is next_pc + disp when the condition holds, else next_pc; no
flag, register or memory byte changes. Bcc d:8 fetches the word at next_pc, then the word at next_pc + disp, whichever
way it goes; Bcc d:16 taken fetches the word at next_pc + disp; not taken it fetches that word and the word at
next_pc, one before the other. In which order Bcc d:16 not taken makes its two fetches no source prints, either is
possible: assumption 8. -/
def Obligations.ConditionalBranches : Prop :=
  ∀ s : State, s.undisturbed →
    (∀ d, BranchesShort (.braD8 d) s (d.signExtend 24) true) ∧
    (∀ d, BranchesShort (.brnD8 d) s (d.signExtend 24) false) ∧
    (∀ d, BranchesShort (.bhiD8 d) s (d.signExtend 24) (!(s.flag .c || s.flag .z))) ∧
    (∀ d, BranchesShort (.blsD8 d) s (d.signExtend 24) (s.flag .c || s.flag .z)) ∧
    (∀ d, BranchesShort (.bccD8 d) s (d.signExtend 24) (!s.flag .c)) ∧
    (∀ d, BranchesShort (.bcsD8 d) s (d.signExtend 24) (s.flag .c)) ∧
    (∀ d, BranchesShort (.bneD8 d) s (d.signExtend 24) (!s.flag .z)) ∧
    (∀ d, BranchesShort (.beqD8 d) s (d.signExtend 24) (s.flag .z)) ∧
    (∀ d, BranchesShort (.bvcD8 d) s (d.signExtend 24) (!s.flag .v)) ∧
    (∀ d, BranchesShort (.bvsD8 d) s (d.signExtend 24) (s.flag .v)) ∧
    (∀ d, BranchesShort (.bplD8 d) s (d.signExtend 24) (!s.flag .n)) ∧
    (∀ d, BranchesShort (.bmiD8 d) s (d.signExtend 24) (s.flag .n)) ∧
    (∀ d, BranchesShort (.bgeD8 d) s (d.signExtend 24) (!(s.flag .n ^^ s.flag .v))) ∧
    (∀ d, BranchesShort (.bltD8 d) s (d.signExtend 24) (s.flag .n ^^ s.flag .v)) ∧
    (∀ d, BranchesShort (.bgtD8 d) s (d.signExtend 24) (!(s.flag .z || (s.flag .n ^^ s.flag .v)))) ∧
    (∀ d, BranchesShort (.bleD8 d) s (d.signExtend 24) (s.flag .z || (s.flag .n ^^ s.flag .v))) ∧
    (∀ d, BranchesLong (.braD16 d) s (d.signExtend 24) true) ∧
    (∀ d, BranchesLong (.brnD16 d) s (d.signExtend 24) false) ∧
    (∀ d, BranchesLong (.bhiD16 d) s (d.signExtend 24) (!(s.flag .c || s.flag .z))) ∧
    (∀ d, BranchesLong (.blsD16 d) s (d.signExtend 24) (s.flag .c || s.flag .z)) ∧
    (∀ d, BranchesLong (.bccD16 d) s (d.signExtend 24) (!s.flag .c)) ∧
    (∀ d, BranchesLong (.bcsD16 d) s (d.signExtend 24) (s.flag .c)) ∧
    (∀ d, BranchesLong (.bneD16 d) s (d.signExtend 24) (!s.flag .z)) ∧
    (∀ d, BranchesLong (.beqD16 d) s (d.signExtend 24) (s.flag .z)) ∧
    (∀ d, BranchesLong (.bvcD16 d) s (d.signExtend 24) (!s.flag .v)) ∧
    (∀ d, BranchesLong (.bvsD16 d) s (d.signExtend 24) (s.flag .v)) ∧
    (∀ d, BranchesLong (.bplD16 d) s (d.signExtend 24) (!s.flag .n)) ∧
    (∀ d, BranchesLong (.bmiD16 d) s (d.signExtend 24) (s.flag .n)) ∧
    (∀ d, BranchesLong (.bgeD16 d) s (d.signExtend 24) (!(s.flag .n ^^ s.flag .v))) ∧
    (∀ d, BranchesLong (.bltD16 d) s (d.signExtend 24) (s.flag .n ^^ s.flag .v)) ∧
    (∀ d, BranchesLong (.bgtD16 d) s (d.signExtend 24) (!(s.flag .z || (s.flag .n ^^ s.flag .v)))) ∧
    (∀ d, BranchesLong (.bleD16 d) s (d.signExtend 24) (s.flag .z || (s.flag .n ^^ s.flag .v)))

/-- After CMP of Y with X, of any size, the condition of each branch is the relation of X and Y that R403 names,
unsigned or signed; cond(cc xor 1) is the negation of cond(cc) and I, UI, H and U take no part. -/
def Obligations.ConditionsAfterCompare : Prop :=
  (∀ (s t : State) (i : Instr) (w : Nat) (x y : BitVec w), s.undisturbed →
    (∃ v rd, i = .cmpBImm8Rd v rd ∧ w = 8 ∧ HEq x (s.reg8 rd) ∧ HEq y v) ∨
      (∃ rs rd, i = .cmpBRsRd rs rd ∧ w = 8 ∧ HEq x (s.reg8 rd) ∧ HEq y (s.reg8 rs)) ∨
      (∃ v rd, i = .cmpWImm16Rd v rd ∧ w = 16 ∧ HEq x (s.reg16 rd) ∧ HEq y v) ∨
      (∃ rs rd, i = .cmpWRsRd rs rd ∧ w = 16 ∧ HEq x (s.reg16 rd) ∧ HEq y (s.reg16 rs)) ∨
      (∃ v n, i = .cmpLImm32ERd v n ∧ w = 32 ∧ HEq x (s.er n) ∧ HEq y v) ∨
      (∃ m n, i = .cmpLERsERd m n ∧ w = 32 ∧ HEq x (s.er n) ∧ HEq y (s.er m)) →
    exec i s = .next t →
      condHolds .hi t.ccr = decide (y.toNat < x.toNat) ∧ condHolds .ls t.ccr = decide (x.toNat ≤ y.toNat) ∧
      condHolds .cc t.ccr = decide (y.toNat ≤ x.toNat) ∧ condHolds .cs t.ccr = decide (x.toNat < y.toNat) ∧
      condHolds .ne t.ccr = decide (x.toNat ≠ y.toNat) ∧ condHolds .eq t.ccr = decide (x.toNat = y.toNat) ∧
      condHolds .ge t.ccr = decide (y.toInt ≤ x.toInt) ∧ condHolds .lt t.ccr = decide (x.toInt < y.toInt) ∧
      condHolds .gt t.ccr = decide (y.toInt < x.toInt) ∧ condHolds .le t.ccr = decide (x.toInt ≤ y.toInt)) ∧
    ∀ a b : Byte, condHolds .ra a = !condHolds .rn a ∧ condHolds .hi a = !condHolds .ls a ∧
      condHolds .cc a = !condHolds .cs a ∧ condHolds .ne a = !condHolds .eq a ∧ condHolds .vc a = !condHolds .vs a ∧
      condHolds .pl a = !condHolds .mi a ∧ condHolds .ge a = !condHolds .lt a ∧ condHolds .gt a = !condHolds .le a ∧
      (a &&& 0x0F = b &&& 0x0F → ∀ x, condHolds x a = condHolds x b)

/-- JMP @ERn, @aa:24 and @@aa:8 (R404 to R406): PC is the address or the pointer's content, as load_pc keeps it, with
the word there prefetched; @ERn and @@aa:8 fetch and discard the next word first; nothing else changes. That @aa:24
fetches the target alone is assumption 8. -/
def Obligations.Jumps : Prop :=
  ∀ s : State, s.undisturbed →
    (∀ n, let p := s.loadPc (s.eaAt n)
      s.canFetch 2 → s.canRead16 p → exec (.jmpAtERn n) s = .next (s.sawNext.atPc p)) ∧
    (∀ a, s.canRead16 (s.loadPc a) → exec (.jmpAbs24 a) s = .next (s.atPc (s.loadPc a))) ∧
    ∀ a : Byte, let q : Addr := a.zeroExtend 24; let p := s.loadPc (s.sawNext.pointerAt q)
      s.canFetch 2 → s.canReadPointer q → s.canRead16 p →
      exec (.jmpInd8 a) s = .next ((s.sawNext.sawPointer q).atPc p)

/-- BSR and JSR (R407 to R411, R413): a form of one word fetches and discards the next word first; the frame of
next_pc is written, ER7 moves by 2 or 4, PC is the target, its first word fetched before the frame is written; JSR
@@aa:8 reads the pointer before the frame is written and fetches the target after. The reserved byte is any value:
assumption 24. That a form of two words fetches the target alone is assumption 8. -/
def Obligations.SubroutineCalls : Prop :=
  ∀ s : State, s.undisturbed →
    (∀ d, s.canFetch 2 → Calls (.bsrD8 d) s s.sawNext (s.nextPc 2) (s.nextPc 2 + d.signExtend 24)) ∧
    (∀ d, Calls (.bsrD16 d) s s (s.nextPc 4) (s.nextPc 4 + d.signExtend 24)) ∧
    (∀ n, s.canFetch 2 → Calls (.jsrAtERn n) s s.sawNext (s.nextPc 2) (s.eaAt n)) ∧
    (∀ a, Calls (.jsrAbs24 a) s s (s.nextPc 4) a) ∧
    ∀ a : Byte, let q : Addr := a.zeroExtend 24; let p := s.loadPc (s.sawNext.pointerAt q)
      s.canFetch 2 → s.canReadPointer q → s.canRead16 p → s.canPush →
      ∃ u rsv, exec (.jsrInd8 a) s = .next (u.atPc p) ∧
        u.regs = (s.setEr .er7 (s.er .er7 - s.returnSize)).regs ∧ u.ccr = s.ccr ∧ s.SameControl u ∧
        (s.sawNext.sawPointer q).Stored u (s.returnFrame (s.nextPc 2) rsv)

/-- RTS (R412, R413): the next word is fetched and discarded, PC is the return address on the stack, ER7 moves up by 2
or 4, nothing else changes. -/
def Obligations.SubroutineReturn : Prop :=
  ∀ s : State, s.undisturbed → s.readsComplete →
    exec .rts s = .next ((s.sawNext.sawReturn.setEr .er7 (s.er .er7 + s.returnSize)).atPc
      (s.loadPc s.sawNext.returnAddress))

/-- A call whose frame lies in RAM, then RTS: PC is the address after the call, and ER0 to ER7 and CCR are as before
it, for every value of the reserved byte (R415). -/
def Obligations.CallThenReturn : Prop :=
  ∀ (s t : State) (i : Instr) (len : Addr), s.undisturbed → s.params.map = [] → s.Inv →
    (∃ d, i = .bsrD8 d ∧ len = 2) ∨ (∃ d, i = .bsrD16 d ∧ len = 4) ∨ (∃ n, i = .jsrAtERn n ∧ len = 2) ∨
      (∃ a, i = .jsrAbs24 a ∧ len = 4) ∨ (∃ a, i = .jsrInd8 a ∧ len = 2) →
    exec i s = .next t →
    ∃ u, exec .rts t = .next u ∧ u.pc = s.nextPc len ∧ u.regs = s.regs ∧ u.ccr = s.ccr

/-- LDC from an immediate, a register and memory, ANDC, ORC and XORC (R441 to R448, R456 to R458): all eight bits of
CCR, from memory the byte at the even address; the inhibit is set; ERs moves by 2 with @ERs+; nothing else changes. -/
def Obligations.LoadCcr : Prop :=
  ∀ s : State, s.undisturbed →
    (∀ v, s.canFetch 2 → exec (.ldcImm8Ccr v) s = .next { s.fallThrough 2 s.regs v with intInhibit := true }) ∧
    (∀ r, s.canFetch 2 → exec (.ldcRsCcr r) s =
      .next { s.fallThrough 2 s.regs (s.reg8 r) with intInhibit := true }) ∧
    (∀ v, s.canFetch 2 → exec (.andcImm8Ccr v) s =
      .next { s.fallThrough 2 s.regs (s.ccr &&& v) with intInhibit := true }) ∧
    (∀ v, s.canFetch 2 → exec (.orcImm8Ccr v) s =
      .next { s.fallThrough 2 s.regs (s.ccr ||| v) with intInhibit := true }) ∧
    (∀ v, s.canFetch 2 → exec (.xorcImm8Ccr v) s =
      .next { s.fallThrough 2 s.regs (s.ccr ^^^ v) with intInhibit := true }) ∧
    (∀ n, LoadsCcrWord (.ldcAtERsCcr n) s 4 (s.eaAt n) s.regs) ∧
    (∀ d n, LoadsCcrWord (.ldcD16ERsCcr d n) s 6 (s.eaD16 d n) s.regs) ∧
    (∀ d n, LoadsCcrWord (.ldcD24ERsCcr d n) s 10 (s.eaD24 d n) s.regs) ∧
    (∀ n, LoadsCcrWord (.ldcPostERsCcr n) s 4 (s.eaAt n) (s.setEr n (s.er n + 2)).regs) ∧
    (∀ a, LoadsCcrWord (.ldcAbs16Ccr a) s 6 (eaAbs16 a) s.regs) ∧
    ∀ a, LoadsCcrWord (.ldcAbs24Ccr a) s 8 a s.regs

/-- STC (R449 to R455): CCR into Reg8(rd), or at the even address of the word with any byte after it; ERd moves down
by 2 first with @-ERd; no flag changes. NOP changes PC and the prefetched word alone (R459). Assumption 24. -/
def Obligations.StoreCcr : Prop :=
  ∀ s : State, s.undisturbed →
    (∀ rd, WritesByteReg (.stcCcrRd rd) s 2 rd s.ccr s.ccr) ∧ Completes .nop s 2 s.regs s.ccr ∧
    (∀ n, StoresCcrWord (.stcCcrAtERd n) s 4 (s.eaAt n) s.regs) ∧
    (∀ d n, StoresCcrWord (.stcCcrD16ERd d n) s 6 (s.eaD16 d n) s.regs) ∧
    (∀ d n, StoresCcrWord (.stcCcrD24ERd d n) s 10 (s.eaD24 d n) s.regs) ∧
    (∀ n, StoresCcrWord (.stcCcrPreERd n) s 4 (low24 (s.er n - 2)) (s.setEr n (s.er n - 2)).regs) ∧
    (∀ a, StoresCcrWord (.stcCcrAbs16 a) s 6 (eaAbs16 a) s.regs) ∧
    ∀ a, StoresCcrWord (.stcCcrAbs24 a) s 8 a s.regs

/-- TRAPA #n takes the trap exception of vector 8 + n with next_pc saved (R462, R520 to R522, R530). The byte at SP +
1 in normal mode is any value: assumption 24. -/
def Obligations.TrapEntry : Prop :=
  ∀ (s : State) (n : BitVec 2), s.undisturbed → s.readsComplete → s.canEnter →
    Enters (exec (.trapaImm2 n) s) s.sawNext (s.nextPc 2) (8 + n.toNat)

/-- RTE (R460): CCR is the byte at the even address SP, PC the 24 bits (normal mode: the low 16) stacked after it as
load_pc keeps them, ER7 moves up by 4; the inhibit is not set; nothing else changes. -/
def Obligations.ReturnFromException : Prop :=
  ∀ s : State, s.undisturbed → s.readsComplete →
    let sp := s.eaAt .er7
    let s1 := s.sawNext
    let h := s1.read16 .data sp
    let s2 := s1.sawRead16 sp
    let l := s2.read16 .data (sp + 2)
    let s3 := s2.sawRead16 (sp + 2)
    let ret : Addr := (match s.params.mode with
      | .normal => 0#8
      | .advanced => h.extractLsb' 0 8) ++ l
    exec .rte s = .next { (s3.setEr .er7 (s.er .er7 + 4)).atPc (s.loadPc ret) with ccr := h.extractLsb' 8 8 }

/-- With RAM everywhere, taking an exception and then RTE gives PC = ret with bit 0 cleared, and CCR and every general
register as before, in both modes and whatever the byte at SP + 1 (R556, R471). -/
def Obligations.EntryThenReturn : Prop :=
  ∀ (s t : State) (ret : Addr) (vec : Nat), s.undisturbed → s.params.map = [] →
    (s.params.mode = .normal → ret.toNat < 2 ^ 16) → exceptionEntry s ret vec = .next t →
    ∃ u, exec .rte t = .next u ∧ u.pc = evenAddr ret ∧ u.ccr = s.ccr ∧ u.regs = s.regs

/-- In sleep and software standby with RES and STBY High (R551, R552): NMI starts its exception whatever I says, and
so does a pending request that is not masked, with PC saved and no word fetched first (R524); a pending request that
is masked, and no request, leave all as it is but the inputs sampled. Waking goes by the spec's decision D21:
assumption 27; that NMI is taken first where another request is pending too is its decision D19: assumption 26; that
the request accepted is withdrawn is the model's: assumption 17; that a bus request is not granted in these states is
the model's choice: assumption 14. -/
def Obligations.SleepAndWake : Prop :=
  ∀ s : State, s.proc = .sleep ∨ s.proc = .softwareStandby → s.sample.undisturbed →
    s.sample.env.stbyLow = false → s.sample.env.resLow = false →
    (s.readsComplete → s.canEnter →
      (∀ v, s.sample.env.nmi = some v →
        Enters (step s) { s.sample with env := { s.sample.env with nmi := none } } s.pc v) ∧
      ∀ r, s.sample.env.nmi = none → s.sample.env.irq = some r → s.sample.masked r = false →
        Enters (step s) { s.sample with env := { s.sample.env with irq := none } } s.pc r.vector) ∧
    (∀ r, s.sample.env.nmi = none → s.sample.env.irq = some r → s.sample.masked r = true → step s = .next s.sample) ∧
    (s.sample.env.nmi = none → s.sample.env.irq = none → step s = .next s.sample)

/-- At a detection point that is not inhibited NMI is taken whatever I says, before any other request, and another
request is taken when it is not masked: the next word is fetched and discarded (R524), PC is saved, the request is
withdrawn (R510, R520). NMI before the others is the spec's decision D19, the withdrawal and the moment are the
model's: assumptions 9, 17 and 26. -/
def Obligations.InterruptAcceptance : Prop :=
  ∀ s : State, s.proc = .run → s.intInhibit = false → s.sample.undisturbed → s.sample.env.stbyLow = false →
    s.sample.env.resLow = false → s.sample.env.busRequest = false → s.readsComplete → s.canEnter →
    (∀ v, s.sample.env.nmi = some v →
      Enters (step s) ({ s.sample with env := { s.sample.env with nmi := none } }.sawNext) s.pc v) ∧
    ∀ r, s.sample.env.nmi = none → s.sample.env.irq = some r → s.sample.masked r = false →
      Enters (step s) ({ s.sample with env := { s.sample.env with irq := none } }.sawNext) s.pc r.vector

/-- Without a UI mask bit a request is masked exactly when I = 1; with one, as the first row of the product's table
for its source and the two bits says, and exactly when I = 1 where no row is for them; with no NMI and every request
masked no exception is accepted (R510, R511, R556). The table and its default are the spec's decision D26 in the
model's form: assumption 18. -/
def Obligations.InterruptMasking : Prop :=
  (∀ (s : State) (r : Irq), s.env.uiIsMask = false → s.masked r = s.flag .i) ∧
    (∀ (s : State) (r : Irq) (before after : List UiMaskRow) (row : UiMaskRow), s.env.uiIsMask = true →
      s.params.uiMask = before ++ row :: after →
      (∀ x ∈ before, x.src ≠ r.src ∨ x.i ≠ s.flag .i ∨ x.ui ≠ s.flag .ui) →
      row.src = r.src → row.i = s.flag .i → row.ui = s.flag .ui → s.masked r = row.masked) ∧
    (∀ (s : State) (r : Irq),
      (∀ x ∈ s.params.uiMask, x.src ≠ r.src ∨ x.i ≠ s.flag .i ∨ x.ui ≠ s.flag .ui) → s.masked r = s.flag .i) ∧
    ∀ s : State, s.env.nmi = none → (∀ r, s.env.irq = some r → s.masked r = true) → s.acceptedRequest = none

/-- The inhibit bit is set by LDC, ANDC, ORC and XORC and by no other instruction, which leave it as it was; reset
exception handling sets it, an exception entry does not. Over a whole step: it is set after one only if it was set
before, or reset exception handling ran, or the instruction at PC is one of those; a step that runs an instruction
clears it unless that instruction sets it (R512). That reset handling sets it is the spec's decision D25: assumption
33; the moment of detection is assumption 9. -/
def Obligations.InhibitBit : Prop :=
  (∀ (i : Instr) (s t : State), s.undisturbed → exec i s = .next t → t.intInhibit = (loadsCcr i || s.intInhibit)) ∧
    (∀ s t : State, s.undisturbed → resetException s = .next t → t.intInhibit = true) ∧
    (∀ (s t : State) (ret : Addr) (vec : Nat), exceptionEntry s ret vec = .next t → t.intInhibit = s.intInhibit) ∧
    (∀ s t : State, s.sample.undisturbed → step s = .next t → t.intInhibit = true →
      s.intInhibit = true ∨ s.proc = .reset ∨
        s.proc = .run ∧ ∃ i, decode s.sample.instructionWords = some i ∧ loadsCcr i = true) ∧
    ∀ (s t : State) (i : Instr), s.RunsNext → decode s.sample.instructionWords = some i → step s = .next t →
      t.intInhibit = loadsCcr i

/-- While the inhibit bit is set no request is accepted: the step runs the instruction at PC, and where that
instruction does not load CCR the next detection point is an ordinary one again (R512, R564). One instruction after
reset is the spec's decision D25: assumption 33. -/
def Obligations.NoInterruptAfterInhibit : Prop :=
  ∀ (s t : State) (i : Instr), s.RunsNext → s.intInhibit = true → decode s.sample.instructionWords = some i →
    step s = .next t →
    exec i { s.sample.sawWords 2 (i.length / 2 - 1) with intInhibit := false } = .next t ∧ t.intInhibit = loadsCcr i

/-- No instruction changes the parameters, the inputs to come or the draw index, whatever comes between its accesses.
Where nothing does, none changes the inputs now but EEPMOV.W with an NMI pending as it began, which may note that NMI
for the next step, only SLEEP and TRAPA change the processing state, and I, UI and U are changed only by LDC, ANDC,
ORC, XORC, RTE and TRAPA (R36, R47, R50). The inputs, those to come and the draw index are the model's own fields and
the parameters its form of R9: assumptions 1, 7 and 17; the note of an NMI (nmiDuring) is the model's way to keep it
pending, which no rule gives in these terms: assumption 29. -/
def Obligations.UntouchedByInstructions : Prop :=
  ∀ (i : Instr) (s t : State), exec i s = .next t →
    t.params = s.params ∧ t.inputs = s.inputs ∧ t.draws = s.draws ∧
      (s.undisturbed →
        (t.env = s.env ∨ i = .eepmovW ∧ ∃ v, s.env.nmi = some v ∧ t.env = { s.env with nmiDuring := some ⟨0, v⟩ }) ∧
        (i ≠ .sleep → (∀ n, i ≠ .trapaImm2 n) → t.proc = s.proc) ∧
        (loadsCcr i = false → i ≠ .rte → (∀ n, i ≠ .trapaImm2 n) →
          t.flag .i = s.flag .i ∧ t.flag .ui = s.flag .ui ∧ t.flag .u = s.flag .u))

/-- EEPMOV.B, and EEPMOV.W without NMI, in RAM, with n the count: memory is as after n moves of one byte, each written
before the next is read, so on overlapping blocks too (R495), and a block one byte below its destination fills it with
its first byte; on blocks that do not overlap each destination byte is the source byte; every other byte, CCR and
every other register stay, the count is 0, ER5 and ER6 are n further (R490, R491, R496). -/
def Obligations.BlockTransferBytes : Prop :=
  ∀ s : State, s.undisturbed → s.params.map = [] →
    let n := (s.reg8 ⟨.er4, .l⟩).toNat
    BlockCopied (exec .eepmovB s) s n (withByteView .l (s.er .er4) 0) ∧
    (s.env.nmi = none → s.env.nmiDuring = none →
      BlockCopied (exec .eepmovW s) s (s.reg16 ⟨.er4, .r⟩).toNat (withWordView .r (s.er .er4) 0)) ∧
    (s.er .er6 = s.er .er5 + 1 → ∃ t, exec .eepmovB s = .next t ∧
      ∀ i, i < n → memLookup t.mem (s.blockTarget i) = memLookup s.mem (s.blockSource 0))

/-- EEPMOV on any blocks, overlapping ones too, where every access completes: it completes, CCR stays, PC is next_pc,
the count is 0 and ER5 and ER6 are n further; with count 0 nothing but PC and the prefetched word changes (R490 to
R492, R495, R496). -/
def Obligations.BlockTransferRegisters : Prop :=
  ∀ s : State, s.undisturbed → s.readsComplete → s.writesComplete →
    (∃ t, exec .eepmovB s = .next t ∧ t.pc = s.nextPc 4 ∧ t.ccr = s.ccr ∧ s.SameControl t ∧
      t.regs = s.blockRegs (s.reg8 ⟨.er4, .l⟩).toNat (withByteView .l (s.er .er4) 0)) ∧
    (s.env.nmi = none → s.env.nmiDuring = none →
      ∃ t, exec .eepmovW s = .next t ∧ t.pc = s.nextPc 4 ∧ t.ccr = s.ccr ∧ s.SameControl t ∧
        t.regs = s.blockRegs (s.reg16 ⟨.er4, .r⟩).toNat (withWordView .r (s.er .er4) 0)) ∧
    let read := (s.sawRead8 (s.eaAt .er5)).sawRead8 (s.eaAt .er6)
    (s.reg8 ⟨.er4, .l⟩ = 0 → exec .eepmovB s = .next (read.past 4)) ∧
    (s.reg16 ⟨.er4, .r⟩ = 0 → exec .eepmovW s = .next (read.past 4))

/-- An NMI ends EEPMOV.W after a completed byte with bytes left: after max(k, 1) bytes when it arrives after k, after
one byte when it was pending as the instruction began. R4 is the bytes left, ER5 and ER6 the next addresses, PC =
next_pc, CCR stays, RAM holds the bytes moved so far and nothing else, and the next step sees NMI pending (R491 to
R493). When NMI is sampled is the spec's decision D24, how it is remembered the model's: assumption 29. -/
def Obligations.BlockTransferCutByNmi : Prop :=
  ∀ (s : State) (done : Nat), s.undisturbed → s.readsComplete → s.writesComplete →
    let n := (s.reg16 ⟨.er4, .r⟩).toNat
    (s.env.nmi.isSome = true ∧ done = min 1 n ∨
      s.env.nmi = none ∧ ∃ a, s.env.nmiDuring = some a ∧ done = min (max a.afterBytes 1) n) →
    ∃ t, exec .eepmovW s = .next t ∧ t.pc = s.nextPc 4 ∧ t.ccr = s.ccr ∧
      t.regs = s.blockRegs done (withWordView .r (s.er .er4) (BitVec.ofNat 16 (n - done))) ∧
      { s with env := t.env }.SameControl t ∧ (s.env.nmi = none → t.env = s.env) ∧
      (s.params.map = [] → t.mem = s.blockMemory done) ∧ (done < n → t.sample.env.nmi.isSome = true)

/-- RES Low puts the machine into the reset state with I = 1 from every state but hardware standby; STBY Low puts it
into hardware standby from every state; nothing executes (R500, R550, R555, R561). Leaving hardware standby is the
spec's decision D21: assumption 25; how the pins are given to a step is the model's form: assumptions 15 and 17. -/
def Obligations.ResetPins : Prop :=
  ∀ s : State,
    (s.sample.env.stbyLow = true → step s = .next { s.sample with proc := .hardwareStandby }) ∧
    (s.sample.env.stbyLow = false → s.sample.env.resLow = true → s.proc ≠ .hardwareStandby →
      ∃ t, step s = .next t ∧ t.proc = .reset ∧ t.flag .i = true ∧ t.regs = s.regs ∧ t.mem = s.mem ∧ t.pc = s.pc ∧
        ∀ f, f ≠ .i → t.flag f = s.flag f) ∧
    (s.sample.env.stbyLow = false → s.proc = .hardwareStandby →
      ∃ t, step s = .next t ∧ t.proc = .reset ∧ t.flag .i = true ∧ t.mem = s.mem)

/-- Reset exception handling when RES is High again: PC from the reset vector as load_pc keeps it, I = 1, the inhibit
set, program execution, the word at the start address prefetched, memory unchanged, nothing stacked: the devices see
those reads alone (R562, R563, R565). -/
def Obligations.ResetHandling : Prop :=
  ∀ s : State, s.proc = .reset → s.sample.undisturbed → s.sample.env.stbyLow = false → s.sample.env.resLow = false →
    s.readsComplete →
    let start := s.loadPc (s.sample.pointerAt s.params.resetVector)
    let read := s.sample.sawPointer s.params.resetVector
    ∃ t, step s = .next t ∧ t.pc = start ∧ t.flag .i = true ∧ t.intInhibit = true ∧ t.proc = .run ∧
      t.pf = read.read16 .prefetch start ∧ t.mem = s.mem ∧ t.devLog = (read.sawRead16 start).devLog ∧
      t.params = s.params

/-- A bus request as a step of program execution begins is granted there: while it lasts the CPU executes nothing,
memory is as the other masters leave it, and PC, CCR, the registers and the prefetched word stay; when it ends the CPU
goes on from where it stopped (R84, R554). This is the release as a step begins; one between the accesses of a step is
a slot of that step (AccessInterleaving): assumption 14. -/
def Obligations.BusRelease : Prop :=
  ∀ s : State, s.sample.env.stbyLow = false → s.sample.env.resLow = false →
    (s.sample.env.busRequest = true → s.proc = .run ∨ s.proc = .busReleased →
      ∃ t, step s = .next t ∧ t.proc = .busReleased ∧ t.regs = s.regs ∧ t.pc = s.pc ∧ t.ccr = s.ccr ∧ t.pf = s.pf ∧
        t.intInhibit = s.intInhibit ∧ t.mem = (s.sample.otherMasters s.sample.env.busAccesses).mem ∧
        t.devLog = (s.sample.otherMasters s.sample.env.busAccesses).devLog) ∧
    (s.sample.env.busRequest = false → s.proc = .busReleased → step s = .next { s.sample with proc := .run })

/-- Every step from a state with the invariant gives a state with it: memory stays canonical, PC even (R31) and below
2^16 in normal mode (R35), I set in the reset state (R561). The canonical PC is the spec's decision D3 and D5, the
canonical memory the model's: assumptions 5 and 19. -/
def Obligations.StepKeepsInvariant : Prop :=
  ∀ s t : State, s.Inv → step s = .next t → t.Inv

/-- The state after reset has the invariant. It rests on the model's choices for that state: memory lists nothing and
reads 0 there, so PC is 0 (assumptions 4 and 5), and PC is kept even (assumption 19); of the spec is I = 1 alone (R59,
R561). -/
def Obligations.ResetHasInvariant : Prop :=
  State.reset.Inv

/-- The state after reset: what R59 gives for PC (the reset vector of a memory that lists nothing), I, the inhibit,
the processing state and the prefetched word. The memory that lists nothing and its value 0 are the model's choice:
assumptions 4 and 5. -/
def Obligations.ResetValues : Prop :=
  let r := State.reset
  r.pc = r.loadPc (r.pointerAt r.params.resetVector) ∧ r.flag .i = true ∧ r.intInhibit = true ∧ r.proc = .run ∧
    r.pf = r.read16 .prefetch r.pc

/-- SLEEP completes (R470): it goes on to next_pc, in sleep mode or, with SSBY = 1, in software standby; registers,
CCR and memory stay. -/
def Obligations.SleepCompletes : Prop :=
  ∀ s : State, s.undisturbed → s.canFetch 2 → exec .sleep s = .next { s.fallThrough 2 s.regs s.ccr with
    proc := if s.env.ssby then .softwareStandby else .sleep }

/-- Another master may have the bus between any two accesses of one instruction (R73, R84, R85, R90). BSET @ERd: a
byte it writes there before the read is what is modified, a byte it writes there between the read and the write is
lost. MOV.L @ERs,ERd: a word it writes between the reads of the two words is read with the old first word. The slots
are the model's form of R73 and of the spec's decisions D10 and D11: assumption 14. -/
def Obligations.AccessInterleaving : Prop :=
  ∀ (s : State) (n : BitVec 3) (erd ers : ERn) (v : Byte) (w : Word), s.params.map = [] →
    let ea := s.eaAt erd
    let quiet : BusSlot := ⟨[], none⟩
    let other (e : Config.BusAccess) : BusSlot := ⟨[e], none⟩
    let under (slots : List BusSlot) : State := { s with env := { s.env with slots := slots } }
    (∃ t, exec (.bsetImm3AtERd n erd) (under [other (.writeByte (s.phys ea) v)]) = .next t ∧
      t.read8 .data ea = withBit n true v) ∧
    (∃ t, exec (.bsetImm3AtERd n erd) (under [quiet, other (.writeByte (s.phys ea) v)]) = .next t ∧
      t.read8 .data ea = withBit n true (s.read8 .data ea)) ∧
    (∃ t, exec (.bsetImm3AtERd n erd) (under [quiet, quiet, other (.writeByte (s.phys ea) v)]) = .next t ∧
      t.read8 .data ea = withBit n true (s.read8 .data ea)) ∧
    ∃ t, exec (.movLAtERsERd ers erd) (under [quiet, quiet,
        other (.writeWord (s.phys (evenAddr (s.eaAt ers) + 2)) w)]) = .next t ∧
      t.er erd = s.read16 .data (s.eaAt ers) ++ w

/-- RES or STBY going Low before the first bus access of an instruction, of an exception entry or of reset exception
handling abandons it there: the reset state with I = 1, or hardware standby, with memory as it stands, what other
masters wrote included (R515, R553, R555, R561). MOV.L ERs,@ERd abandoned before its last access has written its first
word and not its second. The slots and what a pin leaves of a step are the model's form: assumption 15. -/
def Obligations.AbandonedByPins : Prop :=
  (∀ (s : State) (es : List Config.BusAccess) (cut : Cut) (rest : List BusSlot),
    s.env.slots = ⟨es, some cut⟩ :: rest →
    (∀ i : Instr, s.params.eClock = true → Abandoned (exec i s) cut (s.otherMasters es).mem) ∧
    (∀ ret vec, Abandoned (exceptionEntry s ret vec) cut (s.otherMasters es).mem) ∧
    Abandoned (resetException s) cut (s.otherMasters es).mem) ∧
    ∀ (s : State) (ers erd : ERn) (cut : Cut), s.params.map = [] →
      s.env.slots = [⟨[], none⟩, ⟨[], none⟩, ⟨[], some cut⟩] →
      Abandoned (exec (.movLERsAtERd ers erd) s) cut
        (s.write16 (s.eaAt erd) ((s.er ers).extractLsb' 16 16)).mem

end
end

