-- ==== Sys2Proof/Laws/Encoding.lean ====
section
/-! SUPPORT. The fields of an instruction code read back as written (30_encoding R103 to R109), and words as digits. -/

namespace Sys2Proof

/-! ### Digits -/

@[simp] theorem Nib.ofBits_bits (n : Nib) : Nib.ofBits n.bits = n := by cases n <;> rfl

@[simp] theorem Nib.bits_ofBits (b : BitVec 4) : (Nib.ofBits b).bits = b := by revert b; decide

@[simp] theorem nibs8_byteOf (a b : Nib) : nibs8 (byteOf a b) = [a, b] := by cases a <;> cases b <;> rfl

@[simp] theorem byteOf_ofBits (x : Byte) :
    byteOf (.ofBits (x.extractLsb' 4 4)) (.ofBits (x.extractLsb' 0 4)) = x := by
  rw [byteOf, Nib.bits_ofBits, Nib.bits_ofBits]
  exact BitVec.extractLsb'_append_extractLsb'_eq_extractLsb' (w := 8) (x := x) (by decide) |>.trans (by simp)

/-- A word is its two bytes. -/
theorem word_bytes (x : Word) : x.extractLsb' 8 8 ++ x.extractLsb' 0 8 = x :=
  BitVec.extractLsb'_append_extractLsb'_eq_extractLsb' (w := 16) (x := x) (by decide) |>.trans (by simp)

/-- A 24-bit value is its upper byte and its lower word. -/
theorem addr_parts (x : Addr) : x.extractLsb' 16 8 ++ x.extractLsb' 0 16 = x :=
  BitVec.extractLsb'_append_extractLsb'_eq_extractLsb' (w := 24) (x := x) (by decide) |>.trans (by simp)

/-- A longword is its two words. -/
theorem long_words (x : Long) : x.extractLsb' 16 16 ++ x.extractLsb' 0 16 = x :=
  BitVec.extractLsb'_append_extractLsb'_eq_extractLsb' (w := 32) (x := x) (by decide) |>.trans (by simp)

theorem upper_append (m n : Nat) (x : BitVec m) (y : BitVec n) : (x ++ y).extractLsb' n m = x := by
  apply BitVec.eq_of_getLsbD_eq
  intro i hi
  simp [BitVec.getLsbD_append, hi]

theorem lower_append (m n : Nat) (x : BitVec m) (y : BitVec n) : (x ++ y).extractLsb' 0 n = y := by
  apply BitVec.eq_of_getLsbD_eq
  intro i hi
  simp [BitVec.getLsbD_append, hi]

@[simp] theorem nibs16_wordOf (a b c d : Nib) : nibs16 (wordOf a b c d) = [a, b, c, d] := by
  rw [nibs16, wordOf, upper_append, lower_append, nibs8_byteOf, nibs8_byteOf]; rfl

/-! ### Registers and 3-bit fields -/

@[simp] theorem ERn.ofBits_bits (n : ERn) : ERn.ofBits n.bits = n := by cases n <;> rfl

@[simp] theorem ERn.bits_ofBits (b : BitVec 3) : (ERn.ofBits b).bits = b := by revert b; decide

@[simp] theorem R8.ofNib_nib (r : R8) : R8.ofNib r.nib = r := by
  obtain ⟨n, h⟩ := r; cases n <;> cases h <;> rfl

@[simp] theorem R8.nib_ofNib (n : Nib) : (R8.ofNib n).nib = n := by cases n <;> rfl

@[simp] theorem R16.ofNib_nib (r : R16) : R16.ofNib r.nib = r := by
  obtain ⟨n, h⟩ := r; cases n <;> cases h <;> rfl

@[simp] theorem R16.nib_ofNib (n : Nib) : (R16.ofNib n).nib = n := by cases n <;> rfl

/-- A 3-bit value is one of eight. -/
theorem bitVec3_cases (x : BitVec 3) : x = 0 ∨ x = 1 ∨ x = 2 ∨ x = 3 ∨ x = 4 ∨ x = 5 ∨ x = 6 ∨ x = 7 := by
  revert x; decide

variable {α : Type}

@[simp] theorem low3_encLow3 (x : BitVec 3) (k : BitVec 3 → Option α) : low3 (encLow3 x) k = k x := by
  obtain rfl | rfl | rfl | rfl | rfl | rfl | rfl | rfl := bitVec3_cases x <;> rfl

@[simp] theorem high3_encHigh3 (x : BitVec 3) (k : BitVec 3 → Option α) : high3 (encHigh3 x) k = k x := by
  obtain rfl | rfl | rfl | rfl | rfl | rfl | rfl | rfl := bitVec3_cases x <;> rfl

@[simp] theorem split3_encLow3 (x : BitVec 3) (k0 k1 : BitVec 3 → Option α) : split3 (encLow3 x) k0 k1 = k0 x := by
  obtain rfl | rfl | rfl | rfl | rfl | rfl | rfl | rfl := bitVec3_cases x <;> rfl

@[simp] theorem split3_encHigh3 (x : BitVec 3) (k0 k1 : BitVec 3 → Option α) : split3 (encHigh3 x) k0 k1 = k1 x := by
  obtain rfl | rfl | rfl | rfl | rfl | rfl | rfl | rfl := bitVec3_cases x <;> rfl

@[simp] theorem low2_encLow2 (x : BitVec 2) (k : BitVec 2 → Option α) : low2 (encLow2 x) k = k x := by
  have h : x = 0 ∨ x = 1 ∨ x = 2 ∨ x = 3 := by revert x; decide
  obtain rfl | rfl | rfl | rfl := h <;> rfl

/-! ### Extensions -/

@[simp] theorem nib_cons (n : Nib) (rest : List Nib) (k : Nib → List Nib → Option α) : nib (n :: rest) k = k n rest :=
  rfl

@[simp] theorem lit_cons (c n : Nib) (rest : List Nib) (k : List Nib → Option α) :
    lit c (n :: rest) k = if n = c then k rest else none := rfl

@[simp] theorem ext8_nibs8 (x : Byte) (rest : List Nib) (k : Byte → List Nib → Option α) :
    ext8 (nibs8 x ++ rest) k = k x rest := by
  show k (byteOf _ _) rest = _
  rw [byteOf_ofBits]

/-- Four digits of a word read as that word. -/
theorem wordOf_ofBits (x : Word) :
    wordOf (.ofBits ((x.extractLsb' 8 8).extractLsb' 4 4)) (.ofBits ((x.extractLsb' 8 8).extractLsb' 0 4))
      (.ofBits ((x.extractLsb' 0 8).extractLsb' 4 4)) (.ofBits ((x.extractLsb' 0 8).extractLsb' 0 4)) = x := by
  rw [wordOf, byteOf_ofBits, byteOf_ofBits, word_bytes]

@[simp] theorem ext16_nibs16 (x : Word) (rest : List Nib) (k : Word → Option α) :
    ext16 (nibs16 x ++ rest) k = k x := by
  show k (wordOf _ _ _ _) = _
  rw [wordOf_ofBits]

@[simp] theorem ext24_nibs24 (x : Addr) (rest : List Nib) (k : Addr → Option α) :
    ext24 (nibs24 x ++ rest) k = k x := by
  show k (byteOf _ _ ++ wordOf _ _ _ _) = _
  rw [wordOf_ofBits, byteOf_ofBits, addr_parts]

@[simp] theorem ext32_nibs32 (x : Long) (rest : List Nib) (k : Long → Option α) :
    ext32 (nibs32 x ++ rest) k = k x := by
  show k (wordOf _ _ _ _ ++ wordOf _ _ _ _) = _
  rw [wordOf_ofBits, wordOf_ofBits, long_words]

/-! ### Words as digits -/

/-- Whole words packed and unpacked. -/
theorem unpack_packWords : ∀ (n : Nat) (ns : List Nib), ns.length = 4 * n → (packWords ns).flatMap nibs16 = ns
  | 0, [], _ => rfl
  | n + 1, a :: b :: c :: d :: rest, h => by
    rw [packWords, List.flatMap_cons, nibs16_wordOf,
      unpack_packWords n rest (by simp only [List.length_cons] at h; omega)]
    rfl
  | n + 1, [], h => by simp at h
  | n + 1, [_], h => by simp at h; omega
  | n + 1, [_, _], h => by simp at h; omega
  | n + 1, [_, _, _], h => by simp at h; omega

/-- Four digits of a word, packed again. -/
theorem packWords_nibs16 (x : Word) (rest : List Nib) : packWords (nibs16 x ++ rest) = x :: packWords rest := by
  show wordOf _ _ _ _ :: packWords rest = _
  rw [wordOf_ofBits]

/-- Decoding an encoding followed by other words is decoding its digits followed by theirs. -/
theorem decode_encode_append (i : Instr) (rest : List Word) (n : Nat) (h : (encodeNibs i).length = 4 * n) :
    decode (encode i ++ rest) = decodeNibs (encodeNibs i ++ rest.flatMap nibs16) := by
  rw [decode, encode, List.flatMap_append, unpack_packWords n _ h]

/-! ### The length of a code -/

/-- The procedure of R125 finds the length of every instruction's code. -/
theorem codeLength_encodeNibs (i : Instr) (rest : List Nib) : codeLength (encodeNibs i ++ rest) = i.length := by
  cases i <;> rfl

/-- The first word of a code tells its length, or, a prefix, that there is a second word. -/
theorem codeLength_first (a b c d : Nib) (ns : List Nib) :
    codeLength (a :: b :: c :: d :: ns) = codeLength [a, b, c, d] ∨
      codeLength [a, b, c, d] = 4 ∧ 4 ≤ codeLength (a :: b :: c :: d :: ns) := by
  by_cases h : a = .n0 ∧ b = .n1 ∧ (c = .n0 ∨ c = .n4) ∧ d = .n0
  · obtain ⟨rfl, rfl, rfl | rfl, rfl⟩ := h
    all_goals
      refine .inr ⟨rfl, ?_⟩
      unfold codeLength
      (repeat' split) <;> omega
  · left
    cases a <;> cases b <;> first | rfl | (cases c <;> cases d <;> first | rfl | exact absurd (by decide) h)

/-- The first two words of a code tell its length. -/
theorem codeLength_second (a b c d e f g h : Nib) (ns : List Nib) :
    codeLength (a :: b :: c :: d :: e :: f :: g :: h :: ns) = codeLength [a, b, c, d, e, f, g, h] := by
  by_cases hp : a = .n0 ∧ b = .n1 ∧ (c = .n0 ∨ c = .n4) ∧ d = .n0
  · obtain ⟨rfl, rfl, rfl | rfl, rfl⟩ := hp
    all_goals cases e <;> cases f <;> rfl
  · cases a <;> cases b <;> first | rfl | (cases c <;> cases d <;> first | rfl | exact absurd (by decide) hp)

/-- The words fetched so far tell the length of a code, or one word tells that there is a second. -/
theorem codeLength_words (got rest : List Word) (h : got ≠ []) :
    codeLength ((got ++ rest).flatMap nibs16) = codeLength (got.flatMap nibs16) ∨
      got.length = 1 ∧ codeLength (got.flatMap nibs16) = 4 ∧ 4 ≤ codeLength ((got ++ rest).flatMap nibs16) := by
  match got with
  | [w] => exact (codeLength_first _ _ _ _ (rest.flatMap nibs16)).imp id fun h => ⟨rfl, h⟩
  | w :: x :: got =>
    exact .inl ((codeLength_second _ _ _ _ _ _ _ _ ((got ++ rest).flatMap nibs16)).trans
      (codeLength_second _ _ _ _ _ _ _ _ (got.flatMap nibs16)).symm)

end Sys2Proof
end

