-- ==== Sys2Proof/Laws/State.lean ====
section
/-! SUPPORT. One lemma per field per update of the state, and what the read functions see of an update. -/

namespace Sys2Proof.Machine

/-! ### withCcr -/

@[simp] theorem State.withCcr_regs (s : State) (c : Byte) : (s.withCcr c).regs = s.regs := rfl
@[simp] theorem State.withCcr_pc (s : State) (c : Byte) : (s.withCcr c).pc = s.pc := rfl
@[simp] theorem State.withCcr_ccr (s : State) (c : Byte) : (s.withCcr c).ccr = c := rfl
@[simp] theorem State.withCcr_pf (s : State) (c : Byte) : (s.withCcr c).pf = s.pf := rfl
@[simp] theorem State.withCcr_intInhibit (s : State) (c : Byte) : (s.withCcr c).intInhibit = s.intInhibit := rfl
@[simp] theorem State.withCcr_proc (s : State) (c : Byte) : (s.withCcr c).proc = s.proc := rfl
@[simp] theorem State.withCcr_mem (s : State) (c : Byte) : (s.withCcr c).mem = s.mem := rfl
@[simp] theorem State.withCcr_env (s : State) (c : Byte) : (s.withCcr c).env = s.env := rfl
@[simp] theorem State.withCcr_inputs (s : State) (c : Byte) : (s.withCcr c).inputs = s.inputs := rfl
@[simp] theorem State.withCcr_params (s : State) (c : Byte) : (s.withCcr c).params = s.params := rfl
@[simp] theorem State.withCcr_draws (s : State) (c : Byte) : (s.withCcr c).draws = s.draws := rfl
@[simp] theorem State.withCcr_devLog (s : State) (c : Byte) : (s.withCcr c).devLog = s.devLog := rfl
@[simp] theorem State.withCcr_phys (s : State) (c : Byte) (b : Addr) : (s.withCcr c).phys b = s.phys b := rfl
@[simp] theorem State.withCcr_loadPc (s : State) (c : Byte) (b : Addr) : (s.withCcr c).loadPc b = s.loadPc b := rfl
@[simp] theorem State.withCcr_free32 (s : State) (c : Byte) (tag : Nat) : (s.withCcr c).free32 tag = s.free32 tag := rfl
@[simp] theorem State.withCcr_busByte (s : State) (c : Byte) (why : Config.ReadPurpose) (p : Nat) : (s.withCcr c).busByte why p = s.busByte why p := rfl
@[simp] theorem State.withCcr_read8 (s : State) (c : Byte) (why : Config.ReadPurpose) (a : Addr) : (s.withCcr c).read8 why a = s.read8 why a := rfl
@[simp] theorem State.withCcr_read16 (s : State) (c : Byte) (why : Config.ReadPurpose) (a : Addr) : (s.withCcr c).read16 why a = s.read16 why a := rfl
@[simp] theorem State.withCcr_read32 (s : State) (c : Byte) (a : Addr) : (s.withCcr c).read32 a = s.read32 a := rfl
@[simp] theorem State.withCcr_nextPc (s : State) (c : Byte) (len : Addr) : (s.withCcr c).nextPc len = s.nextPc len := rfl
@[simp] theorem State.withCcr_er (s : State) (c : Byte) (m : ERn) : (s.withCcr c).er m = s.er m := rfl

/-! ### setEr -/

@[simp] theorem State.setEr_regs (s : State) (n : ERn) (v : Long) : (s.setEr n v).regs = s.regs.set n v := rfl
@[simp] theorem State.setEr_pc (s : State) (n : ERn) (v : Long) : (s.setEr n v).pc = s.pc := rfl
@[simp] theorem State.setEr_ccr (s : State) (n : ERn) (v : Long) : (s.setEr n v).ccr = s.ccr := rfl
@[simp] theorem State.setEr_pf (s : State) (n : ERn) (v : Long) : (s.setEr n v).pf = s.pf := rfl
@[simp] theorem State.setEr_intInhibit (s : State) (n : ERn) (v : Long) : (s.setEr n v).intInhibit = s.intInhibit := rfl
@[simp] theorem State.setEr_proc (s : State) (n : ERn) (v : Long) : (s.setEr n v).proc = s.proc := rfl
@[simp] theorem State.setEr_mem (s : State) (n : ERn) (v : Long) : (s.setEr n v).mem = s.mem := rfl
@[simp] theorem State.setEr_env (s : State) (n : ERn) (v : Long) : (s.setEr n v).env = s.env := rfl
@[simp] theorem State.setEr_inputs (s : State) (n : ERn) (v : Long) : (s.setEr n v).inputs = s.inputs := rfl
@[simp] theorem State.setEr_params (s : State) (n : ERn) (v : Long) : (s.setEr n v).params = s.params := rfl
@[simp] theorem State.setEr_draws (s : State) (n : ERn) (v : Long) : (s.setEr n v).draws = s.draws := rfl
@[simp] theorem State.setEr_devLog (s : State) (n : ERn) (v : Long) : (s.setEr n v).devLog = s.devLog := rfl
@[simp] theorem State.setEr_phys (s : State) (n : ERn) (v : Long) (b : Addr) : (s.setEr n v).phys b = s.phys b := rfl
@[simp] theorem State.setEr_loadPc (s : State) (n : ERn) (v : Long) (b : Addr) : (s.setEr n v).loadPc b = s.loadPc b := rfl
@[simp] theorem State.setEr_free32 (s : State) (n : ERn) (v : Long) (tag : Nat) : (s.setEr n v).free32 tag = s.free32 tag := rfl
@[simp] theorem State.setEr_busByte (s : State) (n : ERn) (v : Long) (why : Config.ReadPurpose) (p : Nat) : (s.setEr n v).busByte why p = s.busByte why p := rfl
@[simp] theorem State.setEr_read8 (s : State) (n : ERn) (v : Long) (why : Config.ReadPurpose) (a : Addr) : (s.setEr n v).read8 why a = s.read8 why a := rfl
@[simp] theorem State.setEr_read16 (s : State) (n : ERn) (v : Long) (why : Config.ReadPurpose) (a : Addr) : (s.setEr n v).read16 why a = s.read16 why a := rfl
@[simp] theorem State.setEr_read32 (s : State) (n : ERn) (v : Long) (a : Addr) : (s.setEr n v).read32 a = s.read32 a := rfl
@[simp] theorem State.setEr_nextPc (s : State) (n : ERn) (v : Long) (len : Addr) : (s.setEr n v).nextPc len = s.nextPc len := rfl
@[simp] theorem State.setEr_flag (s : State) (n : ERn) (v : Long) (f : Flag) : (s.setEr n v).flag f = s.flag f := rfl

/-! ### setReg8 -/

@[simp] theorem State.setReg8_regs (s : State) (r : R8) (v : Byte) : (s.setReg8 r v).regs = s.regs.set r.n (withByteView r.half (s.er r.n) v) := rfl
@[simp] theorem State.setReg8_pc (s : State) (r : R8) (v : Byte) : (s.setReg8 r v).pc = s.pc := rfl
@[simp] theorem State.setReg8_ccr (s : State) (r : R8) (v : Byte) : (s.setReg8 r v).ccr = s.ccr := rfl
@[simp] theorem State.setReg8_pf (s : State) (r : R8) (v : Byte) : (s.setReg8 r v).pf = s.pf := rfl
@[simp] theorem State.setReg8_intInhibit (s : State) (r : R8) (v : Byte) : (s.setReg8 r v).intInhibit = s.intInhibit := rfl
@[simp] theorem State.setReg8_proc (s : State) (r : R8) (v : Byte) : (s.setReg8 r v).proc = s.proc := rfl
@[simp] theorem State.setReg8_mem (s : State) (r : R8) (v : Byte) : (s.setReg8 r v).mem = s.mem := rfl
@[simp] theorem State.setReg8_env (s : State) (r : R8) (v : Byte) : (s.setReg8 r v).env = s.env := rfl
@[simp] theorem State.setReg8_inputs (s : State) (r : R8) (v : Byte) : (s.setReg8 r v).inputs = s.inputs := rfl
@[simp] theorem State.setReg8_params (s : State) (r : R8) (v : Byte) : (s.setReg8 r v).params = s.params := rfl
@[simp] theorem State.setReg8_draws (s : State) (r : R8) (v : Byte) : (s.setReg8 r v).draws = s.draws := rfl
@[simp] theorem State.setReg8_devLog (s : State) (r : R8) (v : Byte) : (s.setReg8 r v).devLog = s.devLog := rfl
@[simp] theorem State.setReg8_phys (s : State) (r : R8) (v : Byte) (b : Addr) : (s.setReg8 r v).phys b = s.phys b := rfl
@[simp] theorem State.setReg8_loadPc (s : State) (r : R8) (v : Byte) (b : Addr) : (s.setReg8 r v).loadPc b = s.loadPc b := rfl
@[simp] theorem State.setReg8_free32 (s : State) (r : R8) (v : Byte) (tag : Nat) : (s.setReg8 r v).free32 tag = s.free32 tag := rfl
@[simp] theorem State.setReg8_busByte (s : State) (r : R8) (v : Byte) (why : Config.ReadPurpose) (p : Nat) : (s.setReg8 r v).busByte why p = s.busByte why p := rfl
@[simp] theorem State.setReg8_read8 (s : State) (r : R8) (v : Byte) (why : Config.ReadPurpose) (a : Addr) : (s.setReg8 r v).read8 why a = s.read8 why a := rfl
@[simp] theorem State.setReg8_read16 (s : State) (r : R8) (v : Byte) (why : Config.ReadPurpose) (a : Addr) : (s.setReg8 r v).read16 why a = s.read16 why a := rfl
@[simp] theorem State.setReg8_read32 (s : State) (r : R8) (v : Byte) (a : Addr) : (s.setReg8 r v).read32 a = s.read32 a := rfl
@[simp] theorem State.setReg8_nextPc (s : State) (r : R8) (v : Byte) (len : Addr) : (s.setReg8 r v).nextPc len = s.nextPc len := rfl
@[simp] theorem State.setReg8_flag (s : State) (r : R8) (v : Byte) (f : Flag) : (s.setReg8 r v).flag f = s.flag f := rfl

/-! ### setReg16 -/

@[simp] theorem State.setReg16_regs (s : State) (r : R16) (v : Word) : (s.setReg16 r v).regs = s.regs.set r.n (withWordView r.half (s.er r.n) v) := rfl
@[simp] theorem State.setReg16_pc (s : State) (r : R16) (v : Word) : (s.setReg16 r v).pc = s.pc := rfl
@[simp] theorem State.setReg16_ccr (s : State) (r : R16) (v : Word) : (s.setReg16 r v).ccr = s.ccr := rfl
@[simp] theorem State.setReg16_pf (s : State) (r : R16) (v : Word) : (s.setReg16 r v).pf = s.pf := rfl
@[simp] theorem State.setReg16_intInhibit (s : State) (r : R16) (v : Word) : (s.setReg16 r v).intInhibit = s.intInhibit := rfl
@[simp] theorem State.setReg16_proc (s : State) (r : R16) (v : Word) : (s.setReg16 r v).proc = s.proc := rfl
@[simp] theorem State.setReg16_mem (s : State) (r : R16) (v : Word) : (s.setReg16 r v).mem = s.mem := rfl
@[simp] theorem State.setReg16_env (s : State) (r : R16) (v : Word) : (s.setReg16 r v).env = s.env := rfl
@[simp] theorem State.setReg16_inputs (s : State) (r : R16) (v : Word) : (s.setReg16 r v).inputs = s.inputs := rfl
@[simp] theorem State.setReg16_params (s : State) (r : R16) (v : Word) : (s.setReg16 r v).params = s.params := rfl
@[simp] theorem State.setReg16_draws (s : State) (r : R16) (v : Word) : (s.setReg16 r v).draws = s.draws := rfl
@[simp] theorem State.setReg16_devLog (s : State) (r : R16) (v : Word) : (s.setReg16 r v).devLog = s.devLog := rfl
@[simp] theorem State.setReg16_phys (s : State) (r : R16) (v : Word) (b : Addr) : (s.setReg16 r v).phys b = s.phys b := rfl
@[simp] theorem State.setReg16_loadPc (s : State) (r : R16) (v : Word) (b : Addr) : (s.setReg16 r v).loadPc b = s.loadPc b := rfl
@[simp] theorem State.setReg16_free32 (s : State) (r : R16) (v : Word) (tag : Nat) : (s.setReg16 r v).free32 tag = s.free32 tag := rfl
@[simp] theorem State.setReg16_busByte (s : State) (r : R16) (v : Word) (why : Config.ReadPurpose) (p : Nat) : (s.setReg16 r v).busByte why p = s.busByte why p := rfl
@[simp] theorem State.setReg16_read8 (s : State) (r : R16) (v : Word) (why : Config.ReadPurpose) (a : Addr) : (s.setReg16 r v).read8 why a = s.read8 why a := rfl
@[simp] theorem State.setReg16_read16 (s : State) (r : R16) (v : Word) (why : Config.ReadPurpose) (a : Addr) : (s.setReg16 r v).read16 why a = s.read16 why a := rfl
@[simp] theorem State.setReg16_read32 (s : State) (r : R16) (v : Word) (a : Addr) : (s.setReg16 r v).read32 a = s.read32 a := rfl
@[simp] theorem State.setReg16_nextPc (s : State) (r : R16) (v : Word) (len : Addr) : (s.setReg16 r v).nextPc len = s.nextPc len := rfl
@[simp] theorem State.setReg16_flag (s : State) (r : R16) (v : Word) (f : Flag) : (s.setReg16 r v).flag f = s.flag f := rfl

/-! ### loadCcr -/

@[simp] theorem State.loadCcr_regs (s : State) (c : Byte) : (s.loadCcr c).regs = s.regs := rfl
@[simp] theorem State.loadCcr_pc (s : State) (c : Byte) : (s.loadCcr c).pc = s.pc := rfl
@[simp] theorem State.loadCcr_ccr (s : State) (c : Byte) : (s.loadCcr c).ccr = c := rfl
@[simp] theorem State.loadCcr_pf (s : State) (c : Byte) : (s.loadCcr c).pf = s.pf := rfl
@[simp] theorem State.loadCcr_intInhibit (s : State) (c : Byte) : (s.loadCcr c).intInhibit = true := rfl
@[simp] theorem State.loadCcr_proc (s : State) (c : Byte) : (s.loadCcr c).proc = s.proc := rfl
@[simp] theorem State.loadCcr_mem (s : State) (c : Byte) : (s.loadCcr c).mem = s.mem := rfl
@[simp] theorem State.loadCcr_env (s : State) (c : Byte) : (s.loadCcr c).env = s.env := rfl
@[simp] theorem State.loadCcr_inputs (s : State) (c : Byte) : (s.loadCcr c).inputs = s.inputs := rfl
@[simp] theorem State.loadCcr_params (s : State) (c : Byte) : (s.loadCcr c).params = s.params := rfl
@[simp] theorem State.loadCcr_draws (s : State) (c : Byte) : (s.loadCcr c).draws = s.draws := rfl
@[simp] theorem State.loadCcr_devLog (s : State) (c : Byte) : (s.loadCcr c).devLog = s.devLog := rfl
@[simp] theorem State.loadCcr_phys (s : State) (c : Byte) (b : Addr) : (s.loadCcr c).phys b = s.phys b := rfl
@[simp] theorem State.loadCcr_loadPc (s : State) (c : Byte) (b : Addr) : (s.loadCcr c).loadPc b = s.loadPc b := rfl
@[simp] theorem State.loadCcr_free32 (s : State) (c : Byte) (tag : Nat) : (s.loadCcr c).free32 tag = s.free32 tag := rfl
@[simp] theorem State.loadCcr_busByte (s : State) (c : Byte) (why : Config.ReadPurpose) (p : Nat) : (s.loadCcr c).busByte why p = s.busByte why p := rfl
@[simp] theorem State.loadCcr_read8 (s : State) (c : Byte) (why : Config.ReadPurpose) (a : Addr) : (s.loadCcr c).read8 why a = s.read8 why a := rfl
@[simp] theorem State.loadCcr_read16 (s : State) (c : Byte) (why : Config.ReadPurpose) (a : Addr) : (s.loadCcr c).read16 why a = s.read16 why a := rfl
@[simp] theorem State.loadCcr_read32 (s : State) (c : Byte) (a : Addr) : (s.loadCcr c).read32 a = s.read32 a := rfl
@[simp] theorem State.loadCcr_nextPc (s : State) (c : Byte) (len : Addr) : (s.loadCcr c).nextPc len = s.nextPc len := rfl
@[simp] theorem State.loadCcr_er (s : State) (c : Byte) (m : ERn) : (s.loadCcr c).er m = s.er m := rfl

/-! ### tell -/

@[simp] theorem State.tell_regs (s : State) (e : Config.BusAccess) : (s.tell e).regs = s.regs := rfl
@[simp] theorem State.tell_pc (s : State) (e : Config.BusAccess) : (s.tell e).pc = s.pc := rfl
@[simp] theorem State.tell_ccr (s : State) (e : Config.BusAccess) : (s.tell e).ccr = s.ccr := rfl
@[simp] theorem State.tell_pf (s : State) (e : Config.BusAccess) : (s.tell e).pf = s.pf := rfl
@[simp] theorem State.tell_intInhibit (s : State) (e : Config.BusAccess) : (s.tell e).intInhibit = s.intInhibit := rfl
@[simp] theorem State.tell_proc (s : State) (e : Config.BusAccess) : (s.tell e).proc = s.proc := rfl
@[simp] theorem State.tell_mem (s : State) (e : Config.BusAccess) : (s.tell e).mem = s.mem := rfl
@[simp] theorem State.tell_env (s : State) (e : Config.BusAccess) : (s.tell e).env = s.env := rfl
@[simp] theorem State.tell_inputs (s : State) (e : Config.BusAccess) : (s.tell e).inputs = s.inputs := rfl
@[simp] theorem State.tell_params (s : State) (e : Config.BusAccess) : (s.tell e).params = s.params := rfl
@[simp] theorem State.tell_draws (s : State) (e : Config.BusAccess) : (s.tell e).draws = s.draws := rfl
@[simp] theorem State.tell_devLog (s : State) (e : Config.BusAccess) : (s.tell e).devLog = s.devLog ++ if concernsDevice s.params.map (e) then [e] else [] := rfl
@[simp] theorem State.tell_phys (s : State) (e : Config.BusAccess) (b : Addr) : (s.tell e).phys b = s.phys b := rfl
@[simp] theorem State.tell_loadPc (s : State) (e : Config.BusAccess) (b : Addr) : (s.tell e).loadPc b = s.loadPc b := rfl
@[simp] theorem State.tell_free32 (s : State) (e : Config.BusAccess) (tag : Nat) : (s.tell e).free32 tag = s.free32 tag := rfl
@[simp] theorem State.tell_nextPc (s : State) (e : Config.BusAccess) (len : Addr) : (s.tell e).nextPc len = s.nextPc len := rfl
@[simp] theorem State.tell_er (s : State) (e : Config.BusAccess) (m : ERn) : (s.tell e).er m = s.er m := rfl
@[simp] theorem State.tell_flag (s : State) (e : Config.BusAccess) (f : Flag) : (s.tell e).flag f = s.flag f := rfl

/-! ### sawRead8 -/

@[simp] theorem State.sawRead8_regs (s : State) (a : Addr) : (s.sawRead8 a).regs = s.regs := rfl
@[simp] theorem State.sawRead8_pc (s : State) (a : Addr) : (s.sawRead8 a).pc = s.pc := rfl
@[simp] theorem State.sawRead8_ccr (s : State) (a : Addr) : (s.sawRead8 a).ccr = s.ccr := rfl
@[simp] theorem State.sawRead8_pf (s : State) (a : Addr) : (s.sawRead8 a).pf = s.pf := rfl
@[simp] theorem State.sawRead8_intInhibit (s : State) (a : Addr) : (s.sawRead8 a).intInhibit = s.intInhibit := rfl
@[simp] theorem State.sawRead8_proc (s : State) (a : Addr) : (s.sawRead8 a).proc = s.proc := rfl
@[simp] theorem State.sawRead8_mem (s : State) (a : Addr) : (s.sawRead8 a).mem = s.mem := rfl
@[simp] theorem State.sawRead8_env (s : State) (a : Addr) : (s.sawRead8 a).env = s.env := rfl
@[simp] theorem State.sawRead8_inputs (s : State) (a : Addr) : (s.sawRead8 a).inputs = s.inputs := rfl
@[simp] theorem State.sawRead8_params (s : State) (a : Addr) : (s.sawRead8 a).params = s.params := rfl
@[simp] theorem State.sawRead8_draws (s : State) (a : Addr) : (s.sawRead8 a).draws = s.draws := rfl
@[simp] theorem State.sawRead8_devLog (s : State) (a : Addr) : (s.sawRead8 a).devLog = s.devLog ++ if concernsDevice s.params.map (.readByte (s.phys a)) then [.readByte (s.phys a)] else [] := rfl
@[simp] theorem State.sawRead8_phys (s : State) (a : Addr) (b : Addr) : (s.sawRead8 a).phys b = s.phys b := rfl
@[simp] theorem State.sawRead8_loadPc (s : State) (a : Addr) (b : Addr) : (s.sawRead8 a).loadPc b = s.loadPc b := rfl
@[simp] theorem State.sawRead8_free32 (s : State) (a : Addr) (tag : Nat) : (s.sawRead8 a).free32 tag = s.free32 tag := rfl
@[simp] theorem State.sawRead8_nextPc (s : State) (a : Addr) (len : Addr) : (s.sawRead8 a).nextPc len = s.nextPc len := rfl
@[simp] theorem State.sawRead8_er (s : State) (a : Addr) (m : ERn) : (s.sawRead8 a).er m = s.er m := rfl
@[simp] theorem State.sawRead8_flag (s : State) (a : Addr) (f : Flag) : (s.sawRead8 a).flag f = s.flag f := rfl

/-! ### sawRead16 -/

@[simp] theorem State.sawRead16_regs (s : State) (a : Addr) : (s.sawRead16 a).regs = s.regs := rfl
@[simp] theorem State.sawRead16_pc (s : State) (a : Addr) : (s.sawRead16 a).pc = s.pc := rfl
@[simp] theorem State.sawRead16_ccr (s : State) (a : Addr) : (s.sawRead16 a).ccr = s.ccr := rfl
@[simp] theorem State.sawRead16_pf (s : State) (a : Addr) : (s.sawRead16 a).pf = s.pf := rfl
@[simp] theorem State.sawRead16_intInhibit (s : State) (a : Addr) : (s.sawRead16 a).intInhibit = s.intInhibit := rfl
@[simp] theorem State.sawRead16_proc (s : State) (a : Addr) : (s.sawRead16 a).proc = s.proc := rfl
@[simp] theorem State.sawRead16_mem (s : State) (a : Addr) : (s.sawRead16 a).mem = s.mem := rfl
@[simp] theorem State.sawRead16_env (s : State) (a : Addr) : (s.sawRead16 a).env = s.env := rfl
@[simp] theorem State.sawRead16_inputs (s : State) (a : Addr) : (s.sawRead16 a).inputs = s.inputs := rfl
@[simp] theorem State.sawRead16_params (s : State) (a : Addr) : (s.sawRead16 a).params = s.params := rfl
@[simp] theorem State.sawRead16_draws (s : State) (a : Addr) : (s.sawRead16 a).draws = s.draws := rfl
@[simp] theorem State.sawRead16_devLog (s : State) (a : Addr) : (s.sawRead16 a).devLog = s.devLog ++ if concernsDevice s.params.map (.readWord (s.phys (evenAddr a))) then [.readWord (s.phys (evenAddr a))] else [] := rfl
@[simp] theorem State.sawRead16_phys (s : State) (a : Addr) (b : Addr) : (s.sawRead16 a).phys b = s.phys b := rfl
@[simp] theorem State.sawRead16_loadPc (s : State) (a : Addr) (b : Addr) : (s.sawRead16 a).loadPc b = s.loadPc b := rfl
@[simp] theorem State.sawRead16_free32 (s : State) (a : Addr) (tag : Nat) : (s.sawRead16 a).free32 tag = s.free32 tag := rfl
@[simp] theorem State.sawRead16_nextPc (s : State) (a : Addr) (len : Addr) : (s.sawRead16 a).nextPc len = s.nextPc len := rfl
@[simp] theorem State.sawRead16_er (s : State) (a : Addr) (m : ERn) : (s.sawRead16 a).er m = s.er m := rfl
@[simp] theorem State.sawRead16_flag (s : State) (a : Addr) (f : Flag) : (s.sawRead16 a).flag f = s.flag f := rfl

/-! ### sawRead32 -/

@[simp] theorem State.sawRead32_regs (s : State) (a : Addr) : (s.sawRead32 a).regs = s.regs := rfl
@[simp] theorem State.sawRead32_pc (s : State) (a : Addr) : (s.sawRead32 a).pc = s.pc := rfl
@[simp] theorem State.sawRead32_ccr (s : State) (a : Addr) : (s.sawRead32 a).ccr = s.ccr := rfl
@[simp] theorem State.sawRead32_pf (s : State) (a : Addr) : (s.sawRead32 a).pf = s.pf := rfl
@[simp] theorem State.sawRead32_intInhibit (s : State) (a : Addr) : (s.sawRead32 a).intInhibit = s.intInhibit := rfl
@[simp] theorem State.sawRead32_proc (s : State) (a : Addr) : (s.sawRead32 a).proc = s.proc := rfl
@[simp] theorem State.sawRead32_mem (s : State) (a : Addr) : (s.sawRead32 a).mem = s.mem := rfl
@[simp] theorem State.sawRead32_env (s : State) (a : Addr) : (s.sawRead32 a).env = s.env := rfl
@[simp] theorem State.sawRead32_inputs (s : State) (a : Addr) : (s.sawRead32 a).inputs = s.inputs := rfl
@[simp] theorem State.sawRead32_params (s : State) (a : Addr) : (s.sawRead32 a).params = s.params := rfl
@[simp] theorem State.sawRead32_draws (s : State) (a : Addr) : (s.sawRead32 a).draws = s.draws := rfl
@[simp] theorem State.sawRead32_phys (s : State) (a : Addr) (b : Addr) : (s.sawRead32 a).phys b = s.phys b := rfl
@[simp] theorem State.sawRead32_loadPc (s : State) (a : Addr) (b : Addr) : (s.sawRead32 a).loadPc b = s.loadPc b := rfl
@[simp] theorem State.sawRead32_free32 (s : State) (a : Addr) (tag : Nat) : (s.sawRead32 a).free32 tag = s.free32 tag := rfl
@[simp] theorem State.sawRead32_nextPc (s : State) (a : Addr) (len : Addr) : (s.sawRead32 a).nextPc len = s.nextPc len := rfl
@[simp] theorem State.sawRead32_er (s : State) (a : Addr) (m : ERn) : (s.sawRead32 a).er m = s.er m := rfl
@[simp] theorem State.sawRead32_flag (s : State) (a : Addr) (f : Flag) : (s.sawRead32 a).flag f = s.flag f := rfl

/-! ### writeByte -/

@[simp] theorem State.writeByte_regs (s : State) (p : Nat) (v : Byte) : (s.writeByte p v).regs = s.regs := rfl
@[simp] theorem State.writeByte_pc (s : State) (p : Nat) (v : Byte) : (s.writeByte p v).pc = s.pc := rfl
@[simp] theorem State.writeByte_ccr (s : State) (p : Nat) (v : Byte) : (s.writeByte p v).ccr = s.ccr := rfl
@[simp] theorem State.writeByte_pf (s : State) (p : Nat) (v : Byte) : (s.writeByte p v).pf = s.pf := rfl
@[simp] theorem State.writeByte_intInhibit (s : State) (p : Nat) (v : Byte) : (s.writeByte p v).intInhibit = s.intInhibit := rfl
@[simp] theorem State.writeByte_proc (s : State) (p : Nat) (v : Byte) : (s.writeByte p v).proc = s.proc := rfl
@[simp] theorem State.writeByte_mem (s : State) (p : Nat) (v : Byte) : (s.writeByte p v).mem = ramWrite s.params.map s.mem p v := rfl
@[simp] theorem State.writeByte_env (s : State) (p : Nat) (v : Byte) : (s.writeByte p v).env = s.env := rfl
@[simp] theorem State.writeByte_inputs (s : State) (p : Nat) (v : Byte) : (s.writeByte p v).inputs = s.inputs := rfl
@[simp] theorem State.writeByte_params (s : State) (p : Nat) (v : Byte) : (s.writeByte p v).params = s.params := rfl
@[simp] theorem State.writeByte_draws (s : State) (p : Nat) (v : Byte) : (s.writeByte p v).draws = s.draws := rfl
@[simp] theorem State.writeByte_devLog (s : State) (p : Nat) (v : Byte) : (s.writeByte p v).devLog = s.devLog := rfl
@[simp] theorem State.writeByte_phys (s : State) (p : Nat) (v : Byte) (b : Addr) : (s.writeByte p v).phys b = s.phys b := rfl
@[simp] theorem State.writeByte_loadPc (s : State) (p : Nat) (v : Byte) (b : Addr) : (s.writeByte p v).loadPc b = s.loadPc b := rfl
@[simp] theorem State.writeByte_free32 (s : State) (p : Nat) (v : Byte) (tag : Nat) : (s.writeByte p v).free32 tag = s.free32 tag := rfl
@[simp] theorem State.writeByte_nextPc (s : State) (p : Nat) (v : Byte) (len : Addr) : (s.writeByte p v).nextPc len = s.nextPc len := rfl
@[simp] theorem State.writeByte_er (s : State) (p : Nat) (v : Byte) (m : ERn) : (s.writeByte p v).er m = s.er m := rfl
@[simp] theorem State.writeByte_flag (s : State) (p : Nat) (v : Byte) (f : Flag) : (s.writeByte p v).flag f = s.flag f := rfl

/-! ### write8 -/

@[simp] theorem State.write8_regs (s : State) (a : Addr) (v : Byte) : (s.write8 a v).regs = s.regs := rfl
@[simp] theorem State.write8_pc (s : State) (a : Addr) (v : Byte) : (s.write8 a v).pc = s.pc := rfl
@[simp] theorem State.write8_ccr (s : State) (a : Addr) (v : Byte) : (s.write8 a v).ccr = s.ccr := rfl
@[simp] theorem State.write8_pf (s : State) (a : Addr) (v : Byte) : (s.write8 a v).pf = s.pf := rfl
@[simp] theorem State.write8_intInhibit (s : State) (a : Addr) (v : Byte) : (s.write8 a v).intInhibit = s.intInhibit := rfl
@[simp] theorem State.write8_proc (s : State) (a : Addr) (v : Byte) : (s.write8 a v).proc = s.proc := rfl
@[simp] theorem State.write8_mem (s : State) (a : Addr) (v : Byte) : (s.write8 a v).mem = ramWrite s.params.map s.mem (s.phys a) v := rfl
@[simp] theorem State.write8_env (s : State) (a : Addr) (v : Byte) : (s.write8 a v).env = s.env := rfl
@[simp] theorem State.write8_inputs (s : State) (a : Addr) (v : Byte) : (s.write8 a v).inputs = s.inputs := rfl
@[simp] theorem State.write8_params (s : State) (a : Addr) (v : Byte) : (s.write8 a v).params = s.params := rfl
@[simp] theorem State.write8_draws (s : State) (a : Addr) (v : Byte) : (s.write8 a v).draws = s.draws := rfl
@[simp] theorem State.write8_devLog (s : State) (a : Addr) (v : Byte) : (s.write8 a v).devLog = s.devLog ++ if concernsDevice s.params.map (.writeByte (s.phys a) v) then [.writeByte (s.phys a) v] else [] := rfl
@[simp] theorem State.write8_phys (s : State) (a : Addr) (v : Byte) (b : Addr) : (s.write8 a v).phys b = s.phys b := rfl
@[simp] theorem State.write8_loadPc (s : State) (a : Addr) (v : Byte) (b : Addr) : (s.write8 a v).loadPc b = s.loadPc b := rfl
@[simp] theorem State.write8_free32 (s : State) (a : Addr) (v : Byte) (tag : Nat) : (s.write8 a v).free32 tag = s.free32 tag := rfl
@[simp] theorem State.write8_nextPc (s : State) (a : Addr) (v : Byte) (len : Addr) : (s.write8 a v).nextPc len = s.nextPc len := rfl
@[simp] theorem State.write8_er (s : State) (a : Addr) (v : Byte) (m : ERn) : (s.write8 a v).er m = s.er m := rfl
@[simp] theorem State.write8_flag (s : State) (a : Addr) (v : Byte) (f : Flag) : (s.write8 a v).flag f = s.flag f := rfl

/-! ### write16 -/

@[simp] theorem State.write16_regs (s : State) (a : Addr) (v : Word) : (s.write16 a v).regs = s.regs := rfl
@[simp] theorem State.write16_pc (s : State) (a : Addr) (v : Word) : (s.write16 a v).pc = s.pc := rfl
@[simp] theorem State.write16_ccr (s : State) (a : Addr) (v : Word) : (s.write16 a v).ccr = s.ccr := rfl
@[simp] theorem State.write16_pf (s : State) (a : Addr) (v : Word) : (s.write16 a v).pf = s.pf := rfl
@[simp] theorem State.write16_intInhibit (s : State) (a : Addr) (v : Word) : (s.write16 a v).intInhibit = s.intInhibit := rfl
@[simp] theorem State.write16_proc (s : State) (a : Addr) (v : Word) : (s.write16 a v).proc = s.proc := rfl
@[simp] theorem State.write16_mem (s : State) (a : Addr) (v : Word) : (s.write16 a v).mem = ramWrite s.params.map (ramWrite s.params.map s.mem (s.phys (evenAddr a)) (v.extractLsb' 8 8))
      (s.phys (evenAddr a + 1)) (v.extractLsb' 0 8) := rfl
@[simp] theorem State.write16_env (s : State) (a : Addr) (v : Word) : (s.write16 a v).env = s.env := rfl
@[simp] theorem State.write16_inputs (s : State) (a : Addr) (v : Word) : (s.write16 a v).inputs = s.inputs := rfl
@[simp] theorem State.write16_params (s : State) (a : Addr) (v : Word) : (s.write16 a v).params = s.params := rfl
@[simp] theorem State.write16_draws (s : State) (a : Addr) (v : Word) : (s.write16 a v).draws = s.draws := rfl
@[simp] theorem State.write16_devLog (s : State) (a : Addr) (v : Word) : (s.write16 a v).devLog = s.devLog ++ if concernsDevice s.params.map (.writeWord (s.phys (evenAddr a)) v) then [.writeWord (s.phys (evenAddr a)) v] else [] := rfl
@[simp] theorem State.write16_phys (s : State) (a : Addr) (v : Word) (b : Addr) : (s.write16 a v).phys b = s.phys b := rfl
@[simp] theorem State.write16_loadPc (s : State) (a : Addr) (v : Word) (b : Addr) : (s.write16 a v).loadPc b = s.loadPc b := rfl
@[simp] theorem State.write16_free32 (s : State) (a : Addr) (v : Word) (tag : Nat) : (s.write16 a v).free32 tag = s.free32 tag := rfl
@[simp] theorem State.write16_nextPc (s : State) (a : Addr) (v : Word) (len : Addr) : (s.write16 a v).nextPc len = s.nextPc len := rfl
@[simp] theorem State.write16_er (s : State) (a : Addr) (v : Word) (m : ERn) : (s.write16 a v).er m = s.er m := rfl
@[simp] theorem State.write16_flag (s : State) (a : Addr) (v : Word) (f : Flag) : (s.write16 a v).flag f = s.flag f := rfl

/-! ### atPc -/

@[simp] theorem State.atPc_regs (s : State) (a : Addr) : (s.atPc a).regs = s.regs := rfl
@[simp] theorem State.atPc_pc (s : State) (a : Addr) : (s.atPc a).pc = a := rfl
@[simp] theorem State.atPc_ccr (s : State) (a : Addr) : (s.atPc a).ccr = s.ccr := rfl
@[simp] theorem State.atPc_pf (s : State) (a : Addr) : (s.atPc a).pf = s.read16 .prefetch a := rfl
@[simp] theorem State.atPc_intInhibit (s : State) (a : Addr) : (s.atPc a).intInhibit = s.intInhibit := rfl
@[simp] theorem State.atPc_proc (s : State) (a : Addr) : (s.atPc a).proc = s.proc := rfl
@[simp] theorem State.atPc_mem (s : State) (a : Addr) : (s.atPc a).mem = s.mem := rfl
@[simp] theorem State.atPc_env (s : State) (a : Addr) : (s.atPc a).env = s.env := rfl
@[simp] theorem State.atPc_inputs (s : State) (a : Addr) : (s.atPc a).inputs = s.inputs := rfl
@[simp] theorem State.atPc_params (s : State) (a : Addr) : (s.atPc a).params = s.params := rfl
@[simp] theorem State.atPc_draws (s : State) (a : Addr) : (s.atPc a).draws = s.draws := rfl
@[simp] theorem State.atPc_devLog (s : State) (a : Addr) : (s.atPc a).devLog = (s.sawRead16 a).devLog := rfl
@[simp] theorem State.atPc_phys (s : State) (a : Addr) (b : Addr) : (s.atPc a).phys b = s.phys b := rfl
@[simp] theorem State.atPc_loadPc (s : State) (a : Addr) (b : Addr) : (s.atPc a).loadPc b = s.loadPc b := rfl
@[simp] theorem State.atPc_free32 (s : State) (a : Addr) (tag : Nat) : (s.atPc a).free32 tag = s.free32 tag := rfl
@[simp] theorem State.atPc_er (s : State) (a : Addr) (m : ERn) : (s.atPc a).er m = s.er m := rfl
@[simp] theorem State.atPc_flag (s : State) (a : Addr) (f : Flag) : (s.atPc a).flag f = s.flag f := rfl

/-! ### past -/

@[simp] theorem State.past_regs (s : State) (l : Addr) : (s.past l).regs = s.regs := rfl
@[simp] theorem State.past_pc (s : State) (l : Addr) : (s.past l).pc = s.nextPc l := rfl
@[simp] theorem State.past_ccr (s : State) (l : Addr) : (s.past l).ccr = s.ccr := rfl
@[simp] theorem State.past_pf (s : State) (l : Addr) : (s.past l).pf = s.read16 .prefetch (s.nextPc l) := rfl
@[simp] theorem State.past_intInhibit (s : State) (l : Addr) : (s.past l).intInhibit = s.intInhibit := rfl
@[simp] theorem State.past_proc (s : State) (l : Addr) : (s.past l).proc = s.proc := rfl
@[simp] theorem State.past_mem (s : State) (l : Addr) : (s.past l).mem = s.mem := rfl
@[simp] theorem State.past_env (s : State) (l : Addr) : (s.past l).env = s.env := rfl
@[simp] theorem State.past_inputs (s : State) (l : Addr) : (s.past l).inputs = s.inputs := rfl
@[simp] theorem State.past_params (s : State) (l : Addr) : (s.past l).params = s.params := rfl
@[simp] theorem State.past_draws (s : State) (l : Addr) : (s.past l).draws = s.draws := rfl
@[simp] theorem State.past_devLog (s : State) (l : Addr) : (s.past l).devLog = (s.sawRead16 (s.nextPc l)).devLog := rfl
@[simp] theorem State.past_phys (s : State) (l : Addr) (b : Addr) : (s.past l).phys b = s.phys b := rfl
@[simp] theorem State.past_loadPc (s : State) (l : Addr) (b : Addr) : (s.past l).loadPc b = s.loadPc b := rfl
@[simp] theorem State.past_free32 (s : State) (l : Addr) (tag : Nat) : (s.past l).free32 tag = s.free32 tag := rfl
@[simp] theorem State.past_er (s : State) (l : Addr) (m : ERn) : (s.past l).er m = s.er m := rfl
@[simp] theorem State.past_flag (s : State) (l : Addr) (f : Flag) : (s.past l).flag f = s.flag f := rfl

/-! ### fallThrough -/

@[simp] theorem State.fallThrough_regs (s : State) (l : Addr) (g : RegFile) (c : Byte) : (s.fallThrough l g c).regs = g := rfl
@[simp] theorem State.fallThrough_pc (s : State) (l : Addr) (g : RegFile) (c : Byte) : (s.fallThrough l g c).pc = s.nextPc l := rfl
@[simp] theorem State.fallThrough_ccr (s : State) (l : Addr) (g : RegFile) (c : Byte) : (s.fallThrough l g c).ccr = c := rfl
@[simp] theorem State.fallThrough_pf (s : State) (l : Addr) (g : RegFile) (c : Byte) : (s.fallThrough l g c).pf = s.read16 .prefetch (s.nextPc l) := rfl
@[simp] theorem State.fallThrough_intInhibit (s : State) (l : Addr) (g : RegFile) (c : Byte) : (s.fallThrough l g c).intInhibit = s.intInhibit := rfl
@[simp] theorem State.fallThrough_proc (s : State) (l : Addr) (g : RegFile) (c : Byte) : (s.fallThrough l g c).proc = s.proc := rfl
@[simp] theorem State.fallThrough_mem (s : State) (l : Addr) (g : RegFile) (c : Byte) : (s.fallThrough l g c).mem = s.mem := rfl
@[simp] theorem State.fallThrough_env (s : State) (l : Addr) (g : RegFile) (c : Byte) : (s.fallThrough l g c).env = s.env := rfl
@[simp] theorem State.fallThrough_inputs (s : State) (l : Addr) (g : RegFile) (c : Byte) : (s.fallThrough l g c).inputs = s.inputs := rfl
@[simp] theorem State.fallThrough_params (s : State) (l : Addr) (g : RegFile) (c : Byte) : (s.fallThrough l g c).params = s.params := rfl
@[simp] theorem State.fallThrough_draws (s : State) (l : Addr) (g : RegFile) (c : Byte) : (s.fallThrough l g c).draws = s.draws := rfl
@[simp] theorem State.fallThrough_devLog (s : State) (l : Addr) (g : RegFile) (c : Byte) : (s.fallThrough l g c).devLog = (s.sawRead16 (s.nextPc l)).devLog := rfl
@[simp] theorem State.fallThrough_phys (s : State) (l : Addr) (g : RegFile) (c : Byte) (b : Addr) : (s.fallThrough l g c).phys b = s.phys b := rfl
@[simp] theorem State.fallThrough_loadPc (s : State) (l : Addr) (g : RegFile) (c : Byte) (b : Addr) : (s.fallThrough l g c).loadPc b = s.loadPc b := rfl
@[simp] theorem State.fallThrough_free32 (s : State) (l : Addr) (g : RegFile) (c : Byte) (tag : Nat) : (s.fallThrough l g c).free32 tag = s.free32 tag := rfl

@[simp] theorem State.withCcr_flag (s : State) (c : Byte) (f : Flag) : (s.withCcr c).flag f = ccrGet c f := rfl

end Sys2Proof.Machine
end

