-- ==== Sys2Proof/Laws/Registers.lean ====
section
/-! SUPPORT. The register file and its views (10_state R20, R21), and CCR bit by bit (R38). -/

namespace Sys2Proof.Machine

/-! ### General registers -/

@[simp] theorem RegFile.get_set_same (f : RegFile) (n : ERn) (v : Long) : (f.set n v).get n = v := by cases n <;> rfl

theorem RegFile.get_set_other (f : RegFile) (n m : ERn) (v : Long) (h : m ≠ n) : (f.set n v).get m = f.get m := by
  cases n <;> cases m <;> first | rfl | exact absurd rfl h

@[simp] theorem RegFile.set_set (f : RegFile) (n : ERn) (v w : Long) : (f.set n v).set n w = f.set n w := by
  cases n <;> rfl

@[simp] theorem RegFile.set_get (f : RegFile) (n : ERn) : f.set n (f.get n) = f := by cases n <;> rfl

/-- Two register files with the same registers are the same. -/
theorem RegFile.ext_get {f g : RegFile} (h : ∀ n, f.get n = g.get n) : f = g := by
  cases f; cases g
  simp only [RegFile.mk.injEq]
  exact ⟨h .er0, h .er1, h .er2, h .er3, h .er4, h .er5, h .er6, h .er7⟩

@[simp] theorem State.er_setEr_same (s : State) (n : ERn) (v : Long) : (s.setEr n v).er n = v :=
  s.regs.get_set_same n v

theorem State.er_setEr_other (s : State) (n m : ERn) (v : Long) (h : m ≠ n) : (s.setEr n v).er m = s.er m :=
  s.regs.get_set_other n m v h

@[simp] theorem State.setEr_setEr (s : State) (n : ERn) (v w : Long) : (s.setEr n v).setEr n w = s.setEr n w := by
  simp [State.setEr]

@[simp] theorem State.setEr_er (s : State) (n : ERn) : s.setEr n (s.er n) = s := by
  simp [State.setEr, State.er]

/-! ### Views: each is a slice, a write to one replaces the slice -/

theorem byteView_getLsbD (half : ByteHalf) (x : Long) (k : Nat) (hk : k < 8) :
    (byteView half x).getLsbD k = x.getLsbD (match half with | .h => 8 + k | .l => k) := by
  cases half <;> simp [byteView, hk]

theorem wordView_getLsbD (half : WordHalf) (x : Long) (k : Nat) (hk : k < 16) :
    (wordView half x).getLsbD k = x.getLsbD (match half with | .r => k | .e => 16 + k) := by
  cases half <;> simp [wordView, hk]

theorem withByteView_l_getLsbD (x : Long) (v : Byte) (k : Nat) :
    (withByteView .l x v).getLsbD k = if k < 8 then v.getLsbD k else x.getLsbD k := by
  simp only [withByteView, BitVec.getLsbD_append, BitVec.getLsbD_extractLsb']
  by_cases h1 : k < 8
  · simp [h1]
  · by_cases hk : k < 32
    · rw [show 8 + (k - 8) = k by omega]
      simp [h1, show k - 8 < 24 by omega]
    · simp [BitVec.getLsbD_of_ge, Nat.le_of_not_lt hk, h1, show ¬ k - 8 < 24 by omega]

theorem withByteView_h_getLsbD (x : Long) (v : Byte) (k : Nat) :
    (withByteView .h x v).getLsbD k = if 8 ≤ k ∧ k < 16 then v.getLsbD (k - 8) else x.getLsbD k := by
  simp only [withByteView, BitVec.getLsbD_append, BitVec.getLsbD_extractLsb']
  by_cases h1 : k < 8
  · simp [h1, show ¬ 8 ≤ k by omega]
  · by_cases h2 : k < 16
    · simp [h1, show k - 8 < 8 by omega, show 8 ≤ k by omega, h2]
    · by_cases hk : k < 32
      · rw [show 16 + (k - 8 - 8) = k by omega]
        simp [h1, h2, show ¬ k - 8 < 8 by omega, show k - 8 - 8 < 16 by omega]
      · simp [BitVec.getLsbD_of_ge, Nat.le_of_not_lt hk, h1, h2, show ¬ k - 8 < 8 by omega,
          show ¬ k - 8 - 8 < 16 by omega]

theorem withWordView_r_getLsbD (x : Long) (v : Word) (k : Nat) :
    (withWordView .r x v).getLsbD k = if k < 16 then v.getLsbD k else x.getLsbD k := by
  simp only [withWordView, BitVec.getLsbD_append, BitVec.getLsbD_extractLsb']
  by_cases h1 : k < 16
  · simp [h1]
  · by_cases hk : k < 32
    · rw [show 16 + (k - 16) = k by omega]
      simp [h1, show k - 16 < 16 by omega]
    · simp [BitVec.getLsbD_of_ge, Nat.le_of_not_lt hk, h1, show ¬ k - 16 < 16 by omega]

theorem withWordView_e_getLsbD (x : Long) (v : Word) (k : Nat) :
    (withWordView .e x v).getLsbD k = if 16 ≤ k ∧ k < 32 then v.getLsbD (k - 16) else x.getLsbD k := by
  simp only [withWordView, BitVec.getLsbD_append, BitVec.getLsbD_extractLsb']
  by_cases h1 : k < 16
  · simp [h1, show ¬ 16 ≤ k by omega]
  · by_cases h2 : k < 32
    · simp [h1, show 16 ≤ k by omega, h2]
    · simp [BitVec.getLsbD_of_ge, Nat.le_of_not_lt h2, h1, h2, show 16 ≤ k - 16 by omega]

@[simp] theorem byteView_withByteView (half : ByteHalf) (x : Long) (v : Byte) :
    byteView half (withByteView half x v) = v := by
  apply BitVec.eq_of_getLsbD_eq
  intro k hk
  rw [byteView_getLsbD _ _ _ hk]
  cases half
  · simp only [withByteView_h_getLsbD]
    rw [if_pos (by omega)]; congr 1; omega
  · simp only [withByteView_l_getLsbD]
    rw [if_pos hk]

@[simp] theorem wordView_withWordView (half : WordHalf) (x : Long) (v : Word) :
    wordView half (withWordView half x v) = v := by
  apply BitVec.eq_of_getLsbD_eq
  intro k hk
  rw [wordView_getLsbD _ _ _ hk]
  cases half
  · simp only [withWordView_r_getLsbD]
    rw [if_pos hk]
  · simp only [withWordView_e_getLsbD]
    rw [if_pos (by omega)]; congr 1; omega

@[simp] theorem State.reg8_setReg8_same (s : State) (r : R8) (v : Byte) : (s.setReg8 r v).reg8 r = v := by
  simp [State.reg8, State.setReg8]

@[simp] theorem State.reg16_setReg16_same (s : State) (r : R16) (v : Word) : (s.setReg16 r v).reg16 r = v := by
  simp [State.reg16, State.setReg16]

/-! ### CCR -/

/-- Two CCR values with the same bits are the same. -/
theorem ccr_ext {a b : Byte} (h : ∀ f, ccrGet a f = ccrGet b f) : a = b := by
  apply BitVec.eq_of_getLsbD_eq
  intro k hk
  have hf : ∃ f : Flag, f.index = k := by
    match k, hk with
    | 0, _ => exact ⟨.c, rfl⟩
    | 1, _ => exact ⟨.v, rfl⟩
    | 2, _ => exact ⟨.z, rfl⟩
    | 3, _ => exact ⟨.n, rfl⟩
    | 4, _ => exact ⟨.u, rfl⟩
    | 5, _ => exact ⟨.h, rfl⟩
    | 6, _ => exact ⟨.ui, rfl⟩
    | 7, _ => exact ⟨.i, rfl⟩
  obtain ⟨f, rfl⟩ := hf
  exact h f

/-- A bit put into CCR is there, the others stay. -/
@[simp] theorem ccrGet_ccrPut (a : Byte) (f g : Flag) (b : Bool) :
    ccrGet (ccrPut a f b) g = if g = f then b else ccrGet a g := by
  unfold ccrGet ccrPut
  cases b
  · simp only [Bool.false_eq_true, if_false, BitVec.getLsbD_and, BitVec.getLsbD_not]
    cases f <;> cases g <;> simp [Flag.mask, Flag.index]
  · simp only [if_true, BitVec.getLsbD_or]
    cases f <;> cases g <;> simp [Flag.mask, Flag.index]

/-- The bits of a CCR built from its bits. -/
@[simp] theorem ccrGet_ccrOf (i ui h u n z v c : Bool) (f : Flag) :
    ccrGet (ccrOf i ui h u n z v c) f =
      match f with | .i => i | .ui => ui | .h => h | .u => u | .n => n | .z => z | .v => v | .c => c := by
  cases f <;> cases i <;> cases ui <;> cases h <;> cases u <;> cases n <;> cases z <;> cases v <;> cases c <;> rfl

theorem bitVec_zero_iff {w : Nat} (v : BitVec w) : v = 0#w ↔ v.toNat = 0 := by
  rw [← BitVec.toNat_inj]; simp

/-- The flags of a moved value, as one CCR. -/
theorem movFlags_eq {w : Nat} (s : State) (v : BitVec w) : movFlags s.ccr v = s.ccrMoved v := by
  apply ccr_ext
  intro f
  cases f <;> simp [movFlags, ccrNZ, State.ccrMoved, State.ccrNZVC, State.ccrHNZVC, State.flag, bitVec_zero_iff]

end Sys2Proof.Machine
end

