-- ==== Sys2Proof/Laws/Flags.lean ====
section
/-! SUPPORT. The flags of addition and subtraction: the arithmetic forms of 00_scope R18 and the bitwise ones of
41_arithmetic R200 agree at every width. -/

namespace Sys2Proof.Machine

/-- A carry out of the top one of two binary digits of weight `p`, from the digits and the digit of the sum. -/
theorem carry_digit (p x d c : Nat) (hx : x < 2 * p) (hd : d < 2 * p) (hc : c ≤ 1) :
    decide (2 * p ≤ d + x + c) =
      carryBit (decide (p ≤ x)) (decide (p ≤ d)) (decide (p ≤ (d + x + c) % (2 * p))) := by
  have hm : (d + x + c) % (2 * p) = if 2 * p ≤ d + x + c then d + x + c - 2 * p else d + x + c := by
    split
    · rw [Nat.mod_eq_sub_mod ‹_›, Nat.mod_eq_of_lt (by omega)]
    · exact Nat.mod_eq_of_lt (by omega)
  rw [hm]
  unfold carryBit
  by_cases h1 : p ≤ x <;> by_cases h2 : p ≤ d <;> by_cases h3 : 2 * p ≤ d + x + c <;> simp [h1, h2, h3] <;> omega

/-- A borrow into the top one of two binary digits of weight `p`. -/
theorem borrow_digit (p x d c : Nat) (hx : x < 2 * p) (hd : d < 2 * p) (hc : c ≤ 1) :
    decide (d < x + c) =
      borrowBit (decide (p ≤ x)) (decide (p ≤ d)) (decide (p ≤ (d + 2 * (2 * p) - x - c) % (2 * p))) := by
  have hm : (d + 2 * (2 * p) - x - c) % (2 * p) = if d < x + c then d + 2 * p - x - c else d - x - c := by
    split
    · rw [Nat.mod_eq_sub_mod (by omega), show d + 2 * (2 * p) - x - c - 2 * p = d + 2 * p - x - c by omega,
        Nat.mod_eq_of_lt (by omega)]
    · rw [Nat.mod_eq_sub_mod (by omega), Nat.mod_eq_sub_mod (by omega),
        show d + 2 * (2 * p) - x - c - 2 * p - 2 * p = d - x - c by omega, Nat.mod_eq_of_lt (by omega)]
  rw [hm]
  unfold borrowBit
  by_cases h1 : p ≤ x <;> by_cases h2 : p ≤ d <;> by_cases h3 : d < x + c <;> simp [h1, h2, h3] <;> omega

/-- A bit of a value is the top digit of the value cut off above it. -/
theorem getLsbD_eq_digit {w : Nat} (x : BitVec w) (k : Nat) :
    x.getLsbD k = decide (2 ^ k ≤ x.toNat % 2 ^ (k + 1)) := by
  rw [BitVec.getLsbD, Nat.testBit_eq_decide_div_mod_eq, decide_eq_decide]
  have h : x.toNat % 2 ^ (k + 1) = 2 ^ k * (x.toNat / 2 ^ k % 2) + x.toNat % 2 ^ k := by
    rw [Nat.pow_succ, Nat.mod_mul]; omega
  have hp : 0 < 2 ^ k := Nat.two_pow_pos k
  have hl : x.toNat % 2 ^ k < 2 ^ k := Nat.mod_lt _ hp
  rcases Nat.mod_two_eq_zero_or_one (x.toNat / 2 ^ k) with h0 | h0 <;> rw [h, h0] <;> simp <;> omega

theorem cinNat_le (b : Bool) : cinNat b ≤ 1 := by cases b <;> decide

theorem addResult_mod {w : Nat} (d x : BitVec w) (c : Bool) (j : Nat) (hj : j ≤ w) :
    (addResult d x c).toNat % 2 ^ j = (d.toNat % 2 ^ j + x.toNat % 2 ^ j + cinNat c) % 2 ^ j := by
  unfold addResult
  rw [BitVec.toNat_add, BitVec.toNat_add, BitVec.toNat_ofNat]
  have hdvd : 2 ^ j ∣ 2 ^ w := Nat.pow_dvd_pow 2 hj
  rw [Nat.mod_mod_of_dvd _ hdvd, Nat.add_mod, Nat.mod_mod_of_dvd _ hdvd, Nat.mod_mod_of_dvd _ hdvd]
  simp [Nat.add_mod]

theorem subResult_mod {w : Nat} (d x : BitVec w) (c : Bool) (j : Nat) (hj : j ≤ w) :
    (subResult d x c).toNat % 2 ^ j = (d.toNat % 2 ^ j + 2 * 2 ^ j - x.toNat % 2 ^ j - cinNat c) % 2 ^ j := by
  have hp : 0 < 2 ^ j := Nat.two_pow_pos j
  have hx := Nat.mod_lt x.toNat hp
  have hc := cinNat_le c
  have key : ((subResult d x c).toNat + x.toNat + cinNat c) % 2 ^ w = d.toNat % 2 ^ w := by
    have : subResult d x c + x + BitVec.ofNat w (cinNat c) = d := by
      unfold subResult
      rw [BitVec.add_assoc, BitVec.add_comm x, ← BitVec.add_assoc, BitVec.sub_add_cancel, BitVec.sub_add_cancel]
    have h := congrArg BitVec.toNat this
    rw [BitVec.toNat_add, BitVec.toNat_add, BitVec.toNat_ofNat] at h
    rw [← Nat.add_mod] at h
    rw [Nat.mod_eq_of_lt d.isLt, ← h]
  have hdvd : 2 ^ j ∣ 2 ^ w := Nat.pow_dvd_pow 2 hj
  have k2 : ((subResult d x c).toNat % 2 ^ j + x.toNat % 2 ^ j + cinNat c) % 2 ^ j = d.toNat % 2 ^ j := by
    have := congrArg (· % 2 ^ j) key
    simp only [Nat.mod_mod_of_dvd _ hdvd] at this
    rw [← this]; simp [Nat.add_mod]
  have hr := Nat.mod_lt (subResult d x c).toNat hp
  generalize (subResult d x c).toNat % 2 ^ j = r at *
  generalize x.toNat % 2 ^ j = y at *
  rw [← k2]
  generalize hP : 2 ^ j = P at *
  have hsum : (r + y + cinNat c) % P =
      if r + y + cinNat c < P then r + y + cinNat c
      else if r + y + cinNat c < 2 * P then r + y + cinNat c - P else r + y + cinNat c - 2 * P := by
    split
    · exact Nat.mod_eq_of_lt ‹_›
    · rw [Nat.mod_eq_sub_mod (by omega)]
      split
      · exact Nat.mod_eq_of_lt (by omega)
      · rw [Nat.mod_eq_sub_mod (by omega), Nat.mod_eq_of_lt (by omega)]; omega
  rw [hsum]
  split
  · rw [show r + y + cinNat c + 2 * P - y - cinNat c = r + P + P by omega, Nat.add_mod_right, Nat.add_mod_right,
      Nat.mod_eq_of_lt hr]
  · split
    · rw [show r + y + cinNat c - P + 2 * P - y - cinNat c = r + P by omega, Nat.add_mod_right, Nat.mod_eq_of_lt hr]
    · rw [show r + y + cinNat c - 2 * P + 2 * P - y - cinNat c = r by omega, Nat.mod_eq_of_lt hr]

theorem msb_eq_getLsbD {w : Nat} (x : BitVec w) : x.msb = x.getLsbD (w - 1) := BitVec.msb_eq_getLsbD_last x

/-- C of an addition is the carry out of the top bit. -/
theorem addCarry_eq {w : Nat} (d x : BitVec w) (c : Bool) (hw : 0 < w) :
    addCarry d x c = carryBit x.msb d.msb (addResult d x c).msb := by
  obtain ⟨k, rfl⟩ : ∃ k, w = k + 1 := ⟨w - 1, by omega⟩
  simp only [msb_eq_getLsbD, getLsbD_eq_digit, Nat.add_sub_cancel, addResult_mod _ _ _ _ (Nat.le_refl _)]
  have hx := x.isLt
  have hd := d.isLt
  rw [Nat.mod_eq_of_lt hx, Nat.mod_eq_of_lt hd]
  unfold addCarry
  rw [show (2 : Nat) ^ (k + 1) = 2 * 2 ^ k by rw [Nat.pow_succ]; omega] at *
  exact carry_digit _ _ _ _ hx hd (cinNat_le c)

/-- H of an addition is the carry out of bit m - 4. -/
theorem addHalfCarry_eq {w : Nat} (d x : BitVec w) (c : Bool) (hw : 5 ≤ w) :
    addHalfCarry d x c = carryBit (x.getLsbD (w - 5)) (d.getLsbD (w - 5)) ((addResult d x c).getLsbD (w - 5)) := by
  simp only [getLsbD_eq_digit, addResult_mod _ _ _ _ (show w - 5 + 1 ≤ w by omega)]
  have hp : 0 < 2 ^ (w - 5 + 1) := Nat.two_pow_pos _
  have hx := Nat.mod_lt x.toNat hp
  have hd := Nat.mod_lt d.toNat hp
  unfold addHalfCarry
  rw [show w - 4 = w - 5 + 1 by omega]
  rw [show (2 : Nat) ^ (w - 5 + 1) = 2 * 2 ^ (w - 5) by rw [Nat.pow_succ]; omega] at *
  exact carry_digit _ _ _ _ hx hd (cinNat_le c)

/-- C of a subtraction is the borrow into the top bit. -/
theorem subBorrow_eq {w : Nat} (d x : BitVec w) (c : Bool) (hw : 0 < w) :
    subBorrow d x c = borrowBit x.msb d.msb (subResult d x c).msb := by
  obtain ⟨k, rfl⟩ : ∃ k, w = k + 1 := ⟨w - 1, by omega⟩
  simp only [msb_eq_getLsbD, getLsbD_eq_digit, Nat.add_sub_cancel, subResult_mod _ _ _ _ (Nat.le_refl _)]
  have hx := x.isLt
  have hd := d.isLt
  rw [Nat.mod_eq_of_lt hx, Nat.mod_eq_of_lt hd]
  unfold subBorrow
  rw [show (2 : Nat) ^ (k + 1) = 2 * 2 ^ k by rw [Nat.pow_succ]; omega] at *
  exact borrow_digit _ _ _ _ hx hd (cinNat_le c)

/-- H of a subtraction is the borrow out of bit m - 4. -/
theorem subHalfBorrow_eq {w : Nat} (d x : BitVec w) (c : Bool) (hw : 5 ≤ w) :
    subHalfBorrow d x c =
      borrowBit (x.getLsbD (w - 5)) (d.getLsbD (w - 5)) ((subResult d x c).getLsbD (w - 5)) := by
  simp only [getLsbD_eq_digit, subResult_mod _ _ _ _ (show w - 5 + 1 ≤ w by omega)]
  have hp : 0 < 2 ^ (w - 5 + 1) := Nat.two_pow_pos _
  have hx := Nat.mod_lt x.toNat hp
  have hd := Nat.mod_lt d.toNat hp
  unfold subHalfBorrow
  rw [show w - 4 = w - 5 + 1 by omega]
  rw [show (2 : Nat) ^ (w - 5 + 1) = 2 * 2 ^ (w - 5) by rw [Nat.pow_succ]; omega] at *
  exact borrow_digit _ _ _ _ hx hd (cinNat_le c)

/-- V of an addition: Sm·Dm·~Rm + ~Sm·~Dm·Rm. -/
theorem addOverflow_eq {w : Nat} (d x : BitVec w) (c : Bool) :
    addOverflow d x c = (x.msb && d.msb && !(addResult d x c).msb || !x.msb && !d.msb && (addResult d x c).msb) := by
  unfold addOverflow
  cases x.msb <;> cases d.msb <;> cases (addResult d x c).msb <;> rfl

/-- V of a subtraction: ~Sm·Dm·~Rm + Sm·~Dm·Rm. -/
theorem subOverflow_eq {w : Nat} (d x : BitVec w) (c : Bool) :
    subOverflow d x c = (!x.msb && d.msb && !(subResult d x c).msb || x.msb && !d.msb && (subResult d x c).msb) := by
  unfold subOverflow
  cases x.msb <;> cases d.msb <;> cases (subResult d x c).msb <;> rfl

/-- CCR after an addition, by the bitwise formulas. -/
theorem addFlags_eq {w : Nat} (s : State) (d x : BitVec w) (c : Bool) (hw : 5 ≤ w) :
    addFlags s.ccr d x c = s.ccrSum d x (addResult d x c) (decide ((addResult d x c).toNat = 0)) := by
  apply ccr_ext
  intro f
  cases f <;> simp [addFlags, ccrNZ, State.ccrSum, State.ccrHNZVC, State.flag, bitVec_zero_iff,
    addCarry_eq d x c (by omega), addHalfCarry_eq d x c hw, addOverflow_eq]

/-- CCR after a subtraction, by the bitwise formulas. -/
theorem subFlags_eq {w : Nat} (s : State) (d x : BitVec w) (c : Bool) (hw : 5 ≤ w) :
    subFlags s.ccr d x c = s.ccrDifference d x (subResult d x c) (decide ((subResult d x c).toNat = 0)) := by
  apply ccr_ext
  intro f
  cases f <;> simp [subFlags, ccrNZ, State.ccrDifference, State.ccrHNZVC, State.flag, bitVec_zero_iff,
    subBorrow_eq d x c (by omega), subHalfBorrow_eq d x c hw, subOverflow_eq]

end Sys2Proof.Machine
end

