-- ==== Sys2Proof/Laws/Memory.lean ====
section
/-! SUPPORT. Memory: a read after a write (20_memory R64), the canonical form kept by every operation, and the bytes a
store leaves. -/

namespace Sys2Proof.Machine

/-! ### Cells -/

theorem memLookup_memErase (m : List Host.Cell) (x y : Nat) :
    memLookup (memErase m x) y = if y = x then unlistedByte else memLookup m y := by
  induction m with
  | nil => simp [memErase, memLookup]
  | cons c rest ih =>
    obtain ⟨a, b⟩ := c
    simp only [memErase, memLookup]
    split
    · subst a
      rw [ih]
      split
      · rfl
      · rw [if_neg (by omega)]
    · rw [memLookup, ih]
      split
      · rw [if_neg (by omega)]
      · rfl

theorem memLookup_memInsert (m : List Host.Cell) (x : Nat) (v : Byte) (y : Nat) (h : ∀ c ∈ m, c.1 ≠ x) :
    memLookup (memInsert m x v) y = if y = x then v else memLookup m y := by
  induction m with
  | nil => simp [memInsert, memLookup, eq_comm]
  | cons c rest ih =>
    obtain ⟨a, b⟩ := c
    have ha : a ≠ x := h (a, b) (List.mem_cons_self ..)
    simp only [memInsert]
    split
    · simp [memLookup, eq_comm]
    · simp only [memLookup]
      rw [ih fun c hc => h c (List.mem_cons_of_mem _ hc)]
      split
      · rw [if_neg (by omega)]
      · rfl

theorem memErase_addresses (m : List Host.Cell) (x : Nat) : ∀ c ∈ memErase m x, c ∈ m ∧ c.1 ≠ x := by
  induction m with
  | nil => simp [memErase]
  | cons c rest ih =>
    obtain ⟨a, b⟩ := c
    intro d hd
    simp only [memErase] at hd
    split at hd
    · exact ⟨List.mem_cons_of_mem _ (ih d hd).1, (ih d hd).2⟩
    · rcases List.mem_cons.mp hd with rfl | hd
      · exact ⟨List.mem_cons_self .., by assumption⟩
      · exact ⟨List.mem_cons_of_mem _ (ih d hd).1, (ih d hd).2⟩

/-- Reading after writing: the address written gives the byte written, every other one what it gave before. -/
@[simp] theorem memLookup_memWrite (m : List Host.Cell) (x : Nat) (v : Byte) (y : Nat) :
    memLookup (memWrite m x v) y = if y = x then v else memLookup m y := by
  unfold memWrite
  split
  · rw [memLookup_memErase]; split
    · simp_all
    · rfl
  · rw [memLookup_memInsert _ _ _ _ fun c hc => (memErase_addresses m x c hc).2, memLookup_memErase]
    split <;> simp_all

/-! ### The canonical form -/

theorem memWf_memErase (m : List Host.Cell) (x : Nat) (h : memWf m = true) : memWf (memErase m x) = true := by
  induction m with
  | nil => rfl
  | cons c rest ih =>
    obtain ⟨a, b⟩ := c
    simp only [memWf, Bool.and_eq_true, List.all_eq_true, decide_eq_true_eq] at h
    simp only [memErase]
    split
    · exact ih h.2
    · simp only [memWf, Bool.and_eq_true, List.all_eq_true, decide_eq_true_eq]
      exact ⟨⟨⟨fun c hc => h.1.1.1 c (memErase_addresses rest x c hc).1, h.1.1.2⟩, h.1.2⟩, ih h.2⟩

theorem memInsert_addresses (m : List Host.Cell) (x : Nat) (v : Byte) :
    ∀ c ∈ memInsert m x v, c = (x, v) ∨ c ∈ m := by
  induction m with
  | nil => simp [memInsert]
  | cons c rest ih =>
    obtain ⟨a, b⟩ := c
    intro d hd
    simp only [memInsert] at hd
    split at hd
    · rcases List.mem_cons.mp hd with rfl | hd
      · exact .inl rfl
      · exact .inr hd
    · rcases List.mem_cons.mp hd with rfl | hd
      · exact .inr (List.mem_cons_self ..)
      · exact (ih d hd).imp id (List.mem_cons_of_mem _)

theorem memWf_memInsert (m : List Host.Cell) (x : Nat) (v : Byte) (h : memWf m = true) (hx : x < 2 ^ 24)
    (hv : v ≠ unlistedByte) (hm : ∀ c ∈ m, c.1 ≠ x) : memWf (memInsert m x v) = true := by
  induction m with
  | nil => simp [memInsert, memWf, hv]; simpa using hx
  | cons c rest ih =>
    obtain ⟨a, b⟩ := c
    have h0 := h
    simp only [memWf, Bool.and_eq_true, List.all_eq_true, decide_eq_true_eq] at h
    have ha : a ≠ x := hm (a, b) (List.mem_cons_self ..)
    simp only [memInsert]
    split
    · rename_i hlt
      rw [memWf]
      simp only [Bool.and_eq_true, List.all_eq_true, decide_eq_true_eq]
      refine ⟨⟨⟨?_, hx⟩, hv⟩, h0⟩
      intro c hc
      rcases List.mem_cons.mp hc with rfl | hc
      · exact hlt
      · exact lt_trans hlt (h.1.1.1 c hc)
    · rw [memWf]
      simp only [Bool.and_eq_true, List.all_eq_true, decide_eq_true_eq]
      refine ⟨⟨⟨?_, h.1.1.2⟩, h.1.2⟩, ih h.2 fun c hc => hm c (List.mem_cons_of_mem _ hc)⟩
      intro c hc
      rcases memInsert_addresses rest x v c hc with rfl | hc
      · show a < x; omega
      · exact h.1.1.1 c hc

/-- Every write keeps the canonical form. -/
theorem memWf_memWrite (m : List Host.Cell) (x : Nat) (v : Byte) (h : memWf m = true) (hx : x < 2 ^ 24) :
    memWf (memWrite m x v) = true := by
  unfold memWrite
  split
  · exact memWf_memErase m x h
  · exact memWf_memInsert _ x v (memWf_memErase m x h) hx ‹_› fun c hc => (memErase_addresses m x c hc).2

/-- The memory of the state after reset has the form. -/
theorem memWf_reset : memWf State.reset.mem = true := rfl

/-! ### Addresses -/

theorem evenAddr_getLsbD (a : Addr) (k : Nat) : (evenAddr a).getLsbD k = (decide (k ≠ 0) && a.getLsbD k) := by
  unfold evenAddr
  by_cases hk : k < 24
  · rw [BitVec.getLsbD_and]
    have : (0xFFFFFE#24).getLsbD k = decide (k ≠ 0) := by
      revert k; decide
    rw [this, Bool.and_comm]
  · simp [BitVec.getLsbD_of_ge, Nat.le_of_not_lt hk]

@[simp] theorem evenAddr_evenAddr (a : Addr) : evenAddr (evenAddr a) = evenAddr a := by
  apply BitVec.eq_of_getLsbD_eq
  intro i _
  simp only [evenAddr_getLsbD]
  cases decide (i ≠ 0) <;> simp

theorem evenAddr_toNat (a : Addr) : (evenAddr a).toNat = a.toNat - a.toNat % 2 := by
  have h : evenAddr a = (a >>> 1) <<< 1 := by
    apply BitVec.eq_of_getLsbD_eq
    intro i hi
    rw [evenAddr_getLsbD, BitVec.getLsbD_shiftLeft, BitVec.getLsbD_ushiftRight]
    rcases Nat.eq_zero_or_pos i with rfl | h0
    · simp
    · rw [show 1 + (i - 1) = i by omega]
      simp [hi, Nat.pos_iff_ne_zero.mp h0]
  rw [h, BitVec.toNat_shiftLeft, BitVec.toNat_ushiftRight, Nat.shiftRight_eq_div_pow, Nat.shiftLeft_eq]
  have := a.isLt
  omega

theorem evenAddr_of_even (a : Addr) (h : a.getLsbD 0 = false) : evenAddr a = a := by
  apply BitVec.eq_of_getLsbD_eq
  intro i _
  rw [evenAddr_getLsbD]
  rcases Nat.eq_zero_or_pos i with rfl | h0
  · simpa using h.symm
  · simp [Nat.pos_iff_ne_zero.mp h0]

theorem phys_lt (s : State) (a : Addr) : s.phys a < 2 ^ 24 := by
  unfold State.phys physOf
  split
  · exact lt_trans (Nat.mod_lt _ (by decide)) (by decide)
  · exact lt_of_le_of_lt (Nat.mod_le _ _) a.isLt

theorem phys_normal (s : State) (a : Addr) (h : s.params.mode = .normal) : s.phys a = a.toNat % 2 ^ 16 := by
  rw [State.phys, physOf, h]

theorem phys_advanced (s : State) (a : Addr) (h : s.params.mode = .advanced) :
    s.phys a = a.toNat % 2 ^ (24 - s.params.ignoredBits.val) := by
  rw [State.phys, physOf, h]

/-- The bytes of the longword at an even address have consecutive physical addresses, modulo the address space. -/
theorem phys_add (s : State) (a : Addr) (k : Nat) :
    ∃ m, 4 ∣ m ∧ 2 ^ 16 ≤ m ∧ s.phys (evenAddr a + BitVec.ofNat 24 k) = (s.phys (evenAddr a) + k) % m ∧
      s.phys (evenAddr a) < m ∧ s.phys (evenAddr a) % 2 = 0 := by
  have ha := a.isLt
  have h1 := evenAddr_toNat a
  cases hm : s.params.mode
  · refine ⟨2 ^ 16, by decide, le_refl _, ?_⟩
    rw [phys_normal _ _ hm, phys_normal _ _ hm, BitVec.toNat_add]
    simp only [BitVec.toNat_ofNat]
    omega
  · refine ⟨2 ^ (24 - s.params.ignoredBits.val), ?_⟩
    rw [phys_advanced _ _ hm, phys_advanced _ _ hm, BitVec.toNat_add]
    simp only [BitVec.toNat_ofNat]
    obtain ⟨n, hn⟩ := s.params.ignoredBits
    interval_cases n <;> simp only [Nat.reduceSub, Nat.reducePow] <;> omega

theorem phys_even (s : State) (a : Addr) : s.phys (evenAddr a) % 2 = 0 := by
  obtain ⟨_, _, _, _, _, h⟩ := phys_add s a 0
  exact h

/-- The two bytes of a word stand one after the other. -/
theorem phys_succ (s : State) (a : Addr) : s.phys (evenAddr a + 1) = s.phys (evenAddr a) + 1 := by
  obtain ⟨m, h1, _, h3, h4, h5⟩ := phys_add s a 1
  rw [show (1 : Addr) = BitVec.ofNat 24 1 from rfl, h3]
  apply Nat.mod_eq_of_lt
  omega

/-- The four bytes at an even address and the word after it are four addresses. -/
theorem phys_four (s : State) (a : Addr) (i j : Nat) (hi : i < 4) (hj : j < 4) (h : i ≠ j) :
    s.phys (evenAddr a + BitVec.ofNat 24 i) ≠ s.phys (evenAddr a + BitVec.ofNat 24 j) := by
  cases hm : s.params.mode
  · have ha := a.isLt
    have h1 := evenAddr_toNat a
    rw [phys_normal _ _ hm, phys_normal _ _ hm, BitVec.toNat_add, BitVec.toNat_add]
    simp only [BitVec.toNat_ofNat]
    omega
  · have ha := a.isLt
    have h1 := evenAddr_toNat a
    rw [phys_advanced _ _ hm, phys_advanced _ _ hm, BitVec.toNat_add, BitVec.toNat_add]
    simp only [BitVec.toNat_ofNat]
    obtain ⟨n, hn⟩ := s.params.ignoredBits
    interval_cases n <;> simp only [Nat.reduceSub, Nat.reducePow] <;> omega

theorem evenAddr_add_two (a : Addr) : evenAddr (a + 2) = evenAddr a + 2 := by
  apply BitVec.eq_of_toNat_eq
  rw [BitVec.toNat_add, evenAddr_toNat, evenAddr_toNat, BitVec.toNat_add]
  have := a.isLt
  show (a.toNat + 2) % 2 ^ 24 - (a.toNat + 2) % 2 ^ 24 % 2 = (a.toNat - a.toNat % 2 + 2) % 2 ^ 24
  omega

/-! ### The bus -/

theorem State.busByte_congr {s t : State} (hp : t.params = s.params) (hm : t.mem = s.mem) (hd : t.draws = s.draws)
    (hl : t.devLog = s.devLog) (why : Config.ReadPurpose) (p : Nat) : t.busByte why p = s.busByte why p := by
  unfold State.busByte; rw [hp, hm, hd, hl]

/-- What RAM, ROM and an unmapped address give does not depend on what devices saw. -/
theorem State.busByte_of_not_device {s t : State} (hp : t.params = s.params) (hm : t.mem = s.mem)
    (hd : t.draws = s.draws) (why : Config.ReadPurpose) (p : Nat) (h : kindAt s.params.map p ≠ .device) :
    t.busByte why p = s.busByte why p := by
  unfold State.busByte
  rw [hp, hm, hd]
  cases hk : kindAt s.params.map p <;> first | rfl | exact absurd hk h

/-- An access that is not to a device leaves no trace. -/
theorem State.tell_of_not_device (s : State) (e : Config.BusAccess) (h : concernsDevice s.params.map e = false) :
    s.tell e = s := by
  simp [State.tell, h]

@[simp] theorem kindAt_nil (p : Nat) : kindAt [] p = .ram := rfl

@[simp] theorem concernsDevice_nil (e : Config.BusAccess) : concernsDevice [] e = false := by
  cases e <;> simp [concernsDevice]

theorem State.sawRead8_ram (s : State) (a : Addr) (h : s.params.map = []) : s.sawRead8 a = s :=
  s.tell_of_not_device _ (by rw [h]; exact concernsDevice_nil _)

theorem State.sawRead16_ram (s : State) (a : Addr) (h : s.params.map = []) : s.sawRead16 a = s :=
  s.tell_of_not_device _ (by rw [h]; exact concernsDevice_nil _)

/-- Reading after a write to memory (R80): RAM alone keeps it. -/
theorem memLookup_ramWrite (map : List Region) (m : List Host.Cell) (p : Nat) (v : Byte) (q : Nat) :
    memLookup (ramWrite map m p v) q = if q = p ∧ kindAt map p = .ram then v else memLookup m q := by
  unfold ramWrite
  split <;> simp_all

theorem ramWrite_wf (map : List Region) (m : List Host.Cell) (p : Nat) (v : Byte) (hp : p < 2 ^ 24)
    (h : memWf m = true) : memWf (ramWrite map m p v) = true := by
  unfold ramWrite
  split
  · exact memWf_memWrite _ _ _ h hp
  all_goals exact h

/-- The bytes of RAM, ROM and unmapped addresses after a byte was written to memory. -/
theorem State.busByte_ramWrite {s t : State} (p : Nat) (v : Byte) (hp : t.params = s.params)
    (hm : t.mem = ramWrite s.params.map s.mem p v) (hd : t.draws = s.draws) (why : Config.ReadPurpose) (q : Nat)
    (h : kindAt s.params.map q ≠ .device) :
    t.busByte why q = if q = p ∧ kindAt s.params.map p = .ram then v else s.busByte why q := by
  unfold State.busByte
  rw [hp, hm, hd]
  cases hk : kindAt s.params.map q with
  | device => exact absurd hk h
  | ram => exact memLookup_ramWrite ..
  | rom w =>
    simp only [memLookup_ramWrite]
  | unmapped w =>
    rw [if_neg]
    rintro ⟨rfl, h2⟩
    rw [hk] at h2; cases h2

theorem State.write8_wf (s : State) (a : Addr) (v : Byte) (h : memWf s.mem = true) :
    memWf (s.write8 a v).mem = true := ramWrite_wf _ _ _ _ (phys_lt s a) h

theorem State.write16_wf (s : State) (a : Addr) (v : Word) (h : memWf s.mem = true) :
    memWf (s.write16 a v).mem = true :=
  ramWrite_wf _ _ _ _ (phys_lt s _) (ramWrite_wf _ _ _ _ (phys_lt s _) h)

/-! ### The bytes a store leaves -/

/-- No access. -/
theorem State.Stored.refl (s : State) : s.Stored s [] := ⟨by simp, fun _ _ _ => rfl, by simp⟩

/-- Accesses one after the other, to different bytes. -/
theorem State.Stored.trans {s t u : State} {b c : List Config.BusAccess} (h1 : s.Stored t b) (h2 : t.Stored u c)
    (hp : t.params = s.params)
    (hd : ∀ x ∈ b.flatMap accessBytes, x.1 ∉ (c.flatMap accessBytes).map Prod.fst) : s.Stored u (b ++ c) where
  holds := by
    intro x hx hk
    rw [List.flatMap_append] at hx
    rcases List.mem_append.mp hx with hx | hx
    · rw [h2.others _ (.inl (hd x hx)) (by rw [hp, hk]; simp), h1.holds x hx hk]
    · exact h2.holds x hx (by rw [hp]; exact hk)
  others := by
    intro p hp' hn
    rw [List.flatMap_append, List.map_append, List.mem_append] at hp'
    rw [h2.others p _ (by rw [hp]; exact hn), h1.others p _ hn]
    · exact hp'.imp (fun h hh => h (.inl hh)) id
    · rw [hp]
      exact hp'.imp (fun h hh => h (.inr hh)) id
  told := by rw [h2.told, h1.told, hp, List.filter_append, List.append_assoc]

/-- A store does not depend on the fields memory accesses do not look at. -/
theorem State.Stored.of_eq {s s' t t' : State} {b : List Config.BusAccess} (h : s.Stored t b)
    (hp : s'.params = s.params) (hm : s'.mem = s.mem) (hr : s'.draws = s.draws) (ho : s'.devLog = s.devLog)
    (tp : t'.params = t.params) (tm : t'.mem = t.mem) (tr : t'.draws = t.draws) (tt : t'.devLog = t.devLog) :
    s'.Stored t' b where
  holds := by
    intro c hc hk
    rw [State.busByte_congr tp tm tr tt]; exact h.holds c hc (by rw [← hp]; exact hk)
  others := by
    intro p hp' hn
    rw [State.busByte_congr tp tm tr tt, State.busByte_congr hp hm hr ho]
    exact h.others p (by rw [← hp]; exact hp') (by rw [← hp]; exact hn)
  told := by rw [tt, ho, hp]; exact h.told

theorem State.stored_write8 (s : State) (a : Addr) (v : Byte) : s.Stored (s.write8 a v) (s.storedByte a v) where
  holds := by
    intro c hc hk
    simp only [State.storedByte, List.flatMap_cons, List.flatMap_nil, accessBytes, List.append_nil,
      List.mem_singleton] at hc
    subst hc
    rw [State.busByte_ramWrite (s := s) (t := s.write8 a v) (s.phys a) v rfl rfl rfl _ _ (by rw [hk]; simp),
      if_pos ⟨rfl, hk⟩]
  others := by
    intro q hq hn
    rw [State.busByte_ramWrite (s := s) (t := s.write8 a v) (s.phys a) v rfl rfl rfl _ _ hn, if_neg]
    rintro ⟨rfl, hk⟩
    rcases hq with hq | hq
    · exact hq (by simp [State.storedByte, accessBytes])
    · exact hq hk
  told := by
    rw [State.write8_devLog, State.storedByte]
    by_cases h : concernsDevice s.params.map (.writeByte (s.phys a) v) = true <;> simp [h]

theorem State.stored_write16 (s : State) (a : Addr) (v : Word) : s.Stored (s.write16 a v) (s.storedWord a v) := by
  have e (q : Nat) (hn : kindAt s.params.map q ≠ .device) : (s.write16 a v).busByte .data q =
      if q = s.phys (evenAddr a) + 1 ∧ kindAt s.params.map (s.phys (evenAddr a) + 1) = .ram then v.extractLsb' 0 8
      else if q = s.phys (evenAddr a) ∧ kindAt s.params.map (s.phys (evenAddr a)) = .ram then v.extractLsb' 8 8
      else s.busByte .data q := by
    rw [← phys_succ, State.busByte_ramWrite (s := s.writeByte (s.phys (evenAddr a)) (v.extractLsb' 8 8))
      (t := s.write16 a v) (s.phys (evenAddr a + 1)) (v.extractLsb' 0 8) rfl rfl rfl _ _ hn,
      State.busByte_ramWrite (s := s) (t := s.writeByte (s.phys (evenAddr a)) (v.extractLsb' 8 8)) _ _ rfl rfl rfl _ _ hn]
    rfl
  refine ⟨?_, ?_, ?_⟩
  · intro c hc hk
    simp only [State.storedWord, List.flatMap_cons, List.flatMap_nil, accessBytes, List.append_nil,
      List.mem_cons, List.not_mem_nil, or_false] at hc
    rw [e _ (by rw [hk]; simp)]
    rcases hc with rfl | rfl
    · rw [if_neg (by simp), if_pos ⟨rfl, hk⟩]
    · rw [if_pos ⟨rfl, hk⟩]
  · intro q hq hn
    rw [e q hn, if_neg, if_neg]
    all_goals
      rintro ⟨rfl, hk⟩
      rcases hq with hq | hq
      · exact hq (by simp [State.storedWord, accessBytes])
      · exact hq hk
  · rw [State.write16_devLog, State.storedWord]
    by_cases h : concernsDevice s.params.map (.writeWord (s.phys (evenAddr a)) v) = true <;> simp [h]

/-- Two words, one after the other, occupy four addresses. -/
theorem storedWord_apart (s : State) (a : Addr) (v w : Word) :
    ∀ x ∈ (s.storedWord a v).flatMap accessBytes,
      x.1 ∉ ((s.storedWord (a + 2) w).flatMap accessBytes).map Prod.fst := by
  have f (i j : Nat) (hi : i < 4) (hj : j < 4) (h : i ≠ j) := phys_four s a i j hi hj h
  have e1 := phys_succ s a
  have e3 := phys_succ s (a + 2)
  rw [evenAddr_add_two, show evenAddr a + 2 + 1 = evenAddr a + BitVec.ofNat 24 3 by rw [BitVec.add_assoc]; rfl] at e3
  rw [show evenAddr a + 1 = evenAddr a + BitVec.ofNat 24 1 from rfl] at e1
  have f02 := f 0 2 (by decide) (by decide) (by decide)
  have f03 := f 0 3 (by decide) (by decide) (by decide)
  have f12 := f 1 2 (by decide) (by decide) (by decide)
  have f13 := f 1 3 (by decide) (by decide) (by decide)
  rw [show evenAddr a + BitVec.ofNat 24 0 = evenAddr a from BitVec.add_zero _] at f02 f03
  rw [show evenAddr a + 2 = evenAddr a + BitVec.ofNat 24 2 from rfl] at e3
  rw [e3] at f03 f13
  rw [e1] at f12 f13
  intro x hx
  simp only [State.storedWord, evenAddr_add_two, accessBytes, List.flatMap_cons, List.flatMap_nil, List.append_nil,
    List.mem_cons, List.not_mem_nil, or_false, List.map_cons, List.map_nil, not_or] at hx ⊢
  rcases hx with rfl | rfl
  · exact ⟨f02, f03⟩
  · exact ⟨f12, f13⟩

/-! ### Other masters -/

/-- An access of another master touches memory and what devices saw alone. -/
theorem State.otherMaster_keeps (s : State) (e : Config.BusAccess) :
    s.otherMaster e = { s with mem := (s.otherMaster e).mem, devLog := (s.otherMaster e).devLog } := by
  cases e <;> rfl

/-- So do all of them. -/
theorem State.otherMasters_keeps (s : State) (es : List Config.BusAccess) :
    s.otherMasters es = { s with mem := (s.otherMasters es).mem, devLog := (s.otherMasters es).devLog } := by
  induction es generalizing s with
  | nil => rfl
  | cons e rest ih =>
    show (s.otherMaster e).otherMasters rest = _
    rw [ih]
    cases e <;> rfl

theorem State.otherMaster_wf (s : State) (e : Config.BusAccess) (h : memWf s.mem = true) :
    memWf (s.otherMaster e).mem = true := by
  have b (p : Nat) : p % 2 ^ 24 / 2 * 2 + 1 < 2 ^ 24 := by
    have := Nat.mod_lt p (show 0 < 2 ^ 24 by decide)
    omega
  cases e with
  | readByte p => exact h
  | readWord p => exact h
  | writeByte p v => exact ramWrite_wf _ _ _ _ (Nat.mod_lt _ (by decide)) h
  | writeWord p v =>
    exact ramWrite_wf _ _ _ _ (b p) (ramWrite_wf _ _ _ _ (lt_of_le_of_lt (Nat.le_succ _) (b p)) h)

/-- Whatever other masters do, memory stays in its canonical form. -/
theorem State.otherMasters_wf (s : State) (es : List Config.BusAccess) (h : memWf s.mem = true) :
    memWf (s.otherMasters es).mem = true := by
  induction es generalizing s with
  | nil => exact h
  | cons e rest ih => exact ih _ (s.otherMaster_wf e h)

end Sys2Proof.Machine
end

