-- ==== Sys2Proof/Laws/Ops.lean ====
section
/-! SUPPORT. For each shared operation, once, everything it can do: when it answers a next state and which. Later proofs
cite these instead of unfolding the operations. `x_of` and `x_next` are for a step that nothing disturbs, `x_cases` for
any step. -/

namespace Sys2Proof.Machine

/-! ### Draws -/

theorem drawn_eq (b : Bool) (a c : Result) : drawn b a c = if b then a else c := by
  unfold drawn
  split
  · cases b <;> rfl
  · rfl

theorem drawn_next (b : Bool) (a c : Result) (t : State) :
    drawn b a c = .next t ↔ b = true ∧ a = .next t ∨ b = false ∧ c = .next t := by
  rw [drawn_eq]; cases b <;> simp

/-! ### Between two bus accesses -/

/-- `s'` is the machine `s` after what other masters did before some of its bus accesses. -/
structure State.Disturbed (s s' : State) : Prop where
  regs : s'.regs = s.regs
  pc : s'.pc = s.pc
  ccr : s'.ccr = s.ccr
  pf : s'.pf = s.pf
  intInhibit : s'.intInhibit = s.intInhibit
  proc : s'.proc = s.proc
  inputs : s'.inputs = s.inputs
  params : s'.params = s.params
  draws : s'.draws = s.draws
  env : ∃ slots, s'.env = { s.env with slots := slots }
  wf : memWf s.mem = true → memWf s'.mem = true

/-- `t` is the machine `s` abandoned before one of its bus accesses. -/
def State.AbandonedTo (s t : State) : Prop :=
  ∃ s', s.Disturbed s' ∧ (t = enterReset { s' with env := { s'.env with resLow := true } } ∨
    t = { s' with proc := .hardwareStandby, env := { s'.env with stbyLow := true } })

theorem State.Disturbed.refl (s : State) : s.Disturbed s :=
  ⟨rfl, rfl, rfl, rfl, rfl, rfl, rfl, rfl, rfl, ⟨_, rfl⟩, id⟩

theorem State.disturbed_otherMasters (s : State) (rest : List BusSlot) (es : List Config.BusAccess) :
    s.Disturbed ({ s with env := { s.env with slots := rest } }.otherMasters es) := by
  have h := State.otherMasters_keeps { s with env := { s.env with slots := rest } } es
  have hw := State.otherMasters_wf { s with env := { s.env with slots := rest } } es
  constructor
  case wf => exact hw
  all_goals rw [h]
  exact ⟨_, rfl⟩

/-- An access that nothing comes before. -/
theorem beforeAccess_of (s : State) (k : State → Result) (h : s.undisturbed) : beforeAccess s k = k s := by
  unfold beforeAccess; rw [h]

/-- An access is made, after whatever other masters do, or the step is abandoned. -/
theorem beforeAccess_cases (s : State) (k : State → Result) (t : State) (h : beforeAccess s k = .next t) :
    s.AbandonedTo t ∨ ∃ s', s.Disturbed s' ∧ k s' = .next t := by
  unfold beforeAccess at h
  split at h
  · exact .inr ⟨s, .refl s, h⟩
  · have hd := s.disturbed_otherMasters ‹List BusSlot› (‹BusSlot›).accesses
    simp only at h
    split at h
    · exact .inr ⟨_, hd, h⟩
    · cases h; exact .inl ⟨_, hd, .inl rfl⟩
    · cases h; exact .inl ⟨_, hd, .inr rfl⟩

/-- What other masters leave of memory depends on memory and the parameters alone. -/
theorem State.otherMasters_mem_congr (u v : State) (es : List Config.BusAccess) (h1 : u.mem = v.mem)
    (h2 : u.params = v.params) : (u.otherMasters es).mem = (v.otherMasters es).mem := by
  induction es generalizing u v with
  | nil => exact h1
  | cons e es ih =>
    refine ih (u.otherMaster e) (v.otherMaster e) ?_ ?_
    · cases e <;> simp [State.otherMaster, h1, h2]
    · cases e <;> simp [State.otherMaster, h2]

/-- A cut before the next access gives the state of the pin, with memory as it then is. -/
theorem beforeAccess_cut (s : State) (k : State → Result) (es : List Config.BusAccess) (cut : Cut)
    (rest : List BusSlot) (h : s.env.slots = ⟨es, some cut⟩ :: rest) :
    Abandoned (beforeAccess s k) cut (s.otherMasters es).mem := by
  have e : ({ s with env := { s.env with slots := rest } }.otherMasters es).mem = (s.otherMasters es).mem :=
    State.otherMasters_mem_congr _ _ _ rfl rfl
  unfold beforeAccess
  rw [h]
  cases cut
  · exact ⟨_, rfl, e, rfl, by simp [enterReset, State.flag], rfl⟩
  · exact ⟨_, rfl, e, rfl, rfl⟩

/-! ### Bus accesses -/

theorem checkRead_next (s : State) (a : Addr) (k : Result) (t : State) :
    checkRead s a k = .next t ↔ s.canRead8 a ∧ k = .next t := by
  unfold checkRead State.canRead8
  split <;> simp_all

theorem checkRead16_next (s : State) (a : Addr) (k : Result) (t : State) :
    checkRead16 s a k = .next t ↔ s.canRead16 a ∧ k = .next t := by
  simp only [checkRead16, checkRead_next, and_assoc]

theorem checkWrite_next (s : State) (a : Addr) (k : Result) (t : State) :
    checkWrite s a k = .next t ↔ s.canWrite8 a ∧ k = .next t := by
  unfold checkWrite State.canWrite8
  split <;> simp_all

theorem checkRead_of (s : State) (a : Addr) (k : Result) (h : s.canRead8 a) : checkRead s a k = k := by
  unfold checkRead; rw [h]

theorem checkRead16_of (s : State) (a : Addr) (k : Result) (h : s.canRead16 a) : checkRead16 s a k = k := by
  rw [checkRead16, checkRead_of _ _ _ h.1, checkRead_of _ _ _ h.2]

theorem checkRead16_unreadable (s : State) (a : Addr) (k : Result) (f : Fault) (h : s.unreadableWord a f) :
    checkRead16 s a k = .fault f := by
  unfold checkRead16 checkRead
  rcases h with h | ⟨h, h2⟩
  · rw [h]
  · rw [h, h2]

theorem checkWrite_of (s : State) (a : Addr) (k : Result) (h : s.canWrite8 a) : checkWrite s a k = k := by
  unfold checkWrite; rw [h]

theorem load8_cases (s : State) (a : Addr) (k : Byte → State → Result) (t : State) (h : load8 s a k = .next t) :
    s.AbandonedTo t ∨ ∃ s', s.Disturbed s' ∧ s'.canRead8 a ∧ k (s'.read8 .data a) (s'.sawRead8 a) = .next t :=
  (beforeAccess_cases _ _ _ h).imp id fun ⟨s', hd, h⟩ => ⟨s', hd, (checkRead_next ..).mp h⟩

theorem readWord_cases (why : Config.ReadPurpose) (s : State) (a : Addr) (k : Word → State → Result) (t : State)
    (h : readWord why s a k = .next t) :
    s.AbandonedTo t ∨ ∃ s', s.Disturbed s' ∧ s'.canRead16 a ∧ k (s'.read16 why a) (s'.sawRead16 a) = .next t :=
  (beforeAccess_cases _ _ _ h).imp id fun ⟨s', hd, h⟩ => ⟨s', hd, (checkRead16_next ..).mp h⟩

theorem store8_cases (s : State) (a : Addr) (v : Byte) (k : State → Result) (t : State)
    (h : store8 s a v k = .next t) :
    s.AbandonedTo t ∨ ∃ s', s.Disturbed s' ∧ s'.canWrite8 a ∧ k (s'.write8 a v) = .next t :=
  (beforeAccess_cases _ _ _ h).imp id fun ⟨s', hd, h⟩ => ⟨s', hd, (checkWrite_next ..).mp h⟩

theorem store16_cases (s : State) (a : Addr) (v : Word) (k : State → Result) (t : State)
    (h : store16 s a v k = .next t) :
    s.AbandonedTo t ∨ ∃ s', s.Disturbed s' ∧ s'.canWrite16 a ∧ k (s'.write16 a v) = .next t :=
  (beforeAccess_cases _ _ _ h).imp id fun ⟨s', hd, h⟩ =>
    ⟨s', hd, by simpa only [checkWrite_next, and_assoc] using h⟩

theorem load8_next (s : State) (a : Addr) (k : Byte → State → Result) (t : State) (hu : s.undisturbed) :
    load8 s a k = .next t ↔ s.canRead8 a ∧ k (s.read8 .data a) (s.sawRead8 a) = .next t := by
  rw [load8, beforeAccess_of _ _ hu, checkRead_next]

theorem readWord_next (why : Config.ReadPurpose) (s : State) (a : Addr) (k : Word → State → Result) (t : State)
    (hu : s.undisturbed) :
    readWord why s a k = .next t ↔ s.canRead16 a ∧ k (s.read16 why a) (s.sawRead16 a) = .next t := by
  rw [readWord, beforeAccess_of _ _ hu, checkRead16_next]

theorem load16_next (s : State) (a : Addr) (k : Word → State → Result) (t : State) (hu : s.undisturbed) :
    load16 s a k = .next t ↔ s.canRead16 a ∧ k (s.read16 .data a) (s.sawRead16 a) = .next t :=
  readWord_next _ _ _ _ _ hu

theorem load32_next (s : State) (a : Addr) (k : Long → State → Result) (t : State) (hu : s.undisturbed) :
    load32 s a k = .next t ↔ s.canRead32 a ∧ k (s.read32 a) (s.sawRead32 a) = .next t := by
  rw [load32, load16_next _ _ _ _ hu, load16_next (s.sawRead16 _) _ _ _ hu, ← and_assoc]
  rfl

theorem load8_of (s : State) (a : Addr) (k : Byte → State → Result) (hu : s.undisturbed) (h : s.canRead8 a) :
    load8 s a k = k (s.read8 .data a) (s.sawRead8 a) := by
  rw [load8, beforeAccess_of _ _ hu, checkRead_of _ _ _ h]

theorem readWord_of (why : Config.ReadPurpose) (s : State) (a : Addr) (k : Word → State → Result)
    (hu : s.undisturbed) (h : s.canRead16 a) : readWord why s a k = k (s.read16 why a) (s.sawRead16 a) := by
  rw [readWord, beforeAccess_of _ _ hu, checkRead16_of _ _ _ h]

theorem readWord_unreadable (why : Config.ReadPurpose) (s : State) (a : Addr) (k : Word → State → Result) (f : Fault)
    (hu : s.undisturbed) (h : s.unreadableWord a f) : readWord why s a k = .fault f := by
  rw [readWord, beforeAccess_of _ _ hu, checkRead16_unreadable _ _ _ _ h]

theorem load16_of (s : State) (a : Addr) (k : Word → State → Result) (hu : s.undisturbed) (h : s.canRead16 a) :
    load16 s a k = k (s.read16 .data a) (s.sawRead16 a) := readWord_of _ _ _ _ hu h

theorem load32_of (s : State) (a : Addr) (k : Long → State → Result) (hu : s.undisturbed) (h : s.canRead32 a) :
    load32 s a k = k (s.read32 a) (s.sawRead32 a) := by
  rw [load32, load16_of _ _ _ hu h.1, load16_of (s.sawRead16 _) _ _ hu h.2]
  rfl

/-- `MemWrite(a, 4, v)` (R64): the word at EA, then the word after it. -/
def State.write32 (s : State) (a : Addr) (v : Long) : State :=
  (s.write16 (evenAddr a) (v.extractLsb' 16 16)).write16 (evenAddr a + 2) (v.extractLsb' 0 16)

/-- The same with the word after EA first. -/
def State.write32LowFirst (s : State) (a : Addr) (v : Long) : State :=
  (s.write16 (evenAddr a + 2) (v.extractLsb' 0 16)).write16 (evenAddr a) (v.extractLsb' 16 16)

theorem store8_next (s : State) (a : Addr) (v : Byte) (k : State → Result) (t : State) (hu : s.undisturbed) :
    store8 s a v k = .next t ↔ s.canWrite8 a ∧ k (s.write8 a v) = .next t := by
  rw [store8, beforeAccess_of _ _ hu, checkWrite_next]

theorem store16_next (s : State) (a : Addr) (v : Word) (k : State → Result) (t : State) (hu : s.undisturbed) :
    store16 s a v k = .next t ↔ s.canWrite16 a ∧ k (s.write16 a v) = .next t := by
  rw [store16, beforeAccess_of _ _ hu, checkWrite_next, checkWrite_next, and_assoc]

theorem store32_next (s : State) (a : Addr) (v : Long) (k : State → Result) (t : State) (hu : s.undisturbed) :
    store32 s a v k = .next t ↔ s.canWrite32 a ∧ k (s.write32 a v) = .next t := by
  rw [store32, store16_next _ _ _ _ _ hu, store16_next (s.write16 _ _) _ _ _ _ hu, ← and_assoc]
  rfl

theorem store8_of (s : State) (a : Addr) (v : Byte) (k : State → Result) (hu : s.undisturbed) (h : s.canWrite8 a) :
    store8 s a v k = k (s.write8 a v) := by
  rw [store8, beforeAccess_of _ _ hu, checkWrite_of _ _ _ h]

theorem store16_of (s : State) (a : Addr) (v : Word) (k : State → Result) (hu : s.undisturbed) (h : s.canWrite16 a) :
    store16 s a v k = k (s.write16 a v) := by
  rw [store16, beforeAccess_of _ _ hu, checkWrite_of _ _ _ h.1, checkWrite_of _ _ _ h.2]

theorem store32_of (s : State) (a : Addr) (v : Long) (k : State → Result) (hu : s.undisturbed) (h : s.canWrite32 a) :
    store32 s a v k = k (s.write32 a v) := by
  rw [store32, store16_of _ _ _ _ hu h.1, store16_of (s.write16 _ _) _ _ _ hu h.2]
  rfl

theorem store32LowFirst_of (s : State) (a : Addr) (v : Long) (k : State → Result) (hu : s.undisturbed)
    (h : s.canWrite32 a) : store32LowFirst s a v k = k (s.write32LowFirst a v) := by
  have h1 : s.canWrite16 (evenAddr a) := h.1
  rw [store32LowFirst, store16_of _ _ _ _ hu h.2, store16_of (s.write16 _ _) _ _ _ hu h1]
  rfl

/-- A longword written by @-ERd: in one order of its words or the other. -/
theorem store32AnyOrder_of (s : State) (a : Addr) (v : Long) (k : State → Result) (hu : s.undisturbed)
    (h : s.canWrite32 a) :
    store32AnyOrder s a v k = k (s.write32 a v) ∨ store32AnyOrder s a v k = k (s.write32LowFirst a v) := by
  rw [store32AnyOrder, drawn_eq, store32_of _ _ _ _ hu h, store32LowFirst_of _ _ _ _ hu h]
  cases s.free1 0
  · exact .inr rfl
  · exact .inl rfl

/-- The lowest bit of a value is its parity. -/
theorem getLsbD_zero_eq {w : Nat} (x : BitVec w) : x.getLsbD 0 = decide (x.toNat % 2 = 1) := by
  rw [BitVec.getLsbD, Nat.testBit_zero]

/-- The four bytes a longword store leaves. -/
theorem State.stored_write32 (s : State) (a : Addr) (v : Long) : s.Stored (s.write32 a v) (s.storedLong a v) :=
  (s.stored_write16 (evenAddr a) (v.extractLsb' 16 16)).trans
    ((s.write16 (evenAddr a) (v.extractLsb' 16 16)).stored_write16 (evenAddr a + 2) (v.extractLsb' 0 16)) rfl
    (storedWord_apart s _ _ _)

theorem State.stored_write32LowFirst (s : State) (a : Addr) (v : Long) :
    s.Stored (s.write32LowFirst a v) (s.storedLong a v).reverse :=
  (s.stored_write16 (evenAddr a + 2) (v.extractLsb' 0 16)).trans
    ((s.write16 (evenAddr a + 2) (v.extractLsb' 0 16)).stored_write16 (evenAddr a) (v.extractLsb' 16 16)) rfl (by
      intro x hx hn
      obtain ⟨y, hy, e⟩ := List.mem_map.mp hn
      exact storedWord_apart s (evenAddr a) (v.extractLsb' 16 16) (v.extractLsb' 0 16) y hy
        (List.mem_map.mpr ⟨x, hx, e.symm⟩))

theorem State.write32_wf (s : State) (a : Addr) (v : Long) (h : memWf s.mem = true) :
    memWf (s.write32 a v).mem = true := State.write16_wf _ _ _ (s.write16_wf _ _ h)

theorem State.write32LowFirst_wf (s : State) (a : Addr) (v : Long) (h : memWf s.mem = true) :
    memWf (s.write32LowFirst a v).mem = true := State.write16_wf _ _ _ (s.write16_wf _ _ h)

/-! ### The program counter -/

theorem loadPc_even (s : State) (a : Addr) : (s.loadPc a).getLsbD 0 = false := by
  rw [State.loadPc, evenAddr_getLsbD]; rfl

theorem wrapPc_normal_toNat (a : Addr) : (wrapPc .normal a).toNat = a.toNat % 2 ^ 16 := by
  show (a &&& 0x00FFFF#24).toNat = _
  rw [BitVec.toNat_and]
  exact Nat.and_two_pow_sub_one_eq_mod a.toNat 16

theorem loadPc_normal (s : State) (a : Addr) (h : s.params.mode = .normal) : (s.loadPc a).toNat < 2 ^ 16 := by
  rw [State.loadPc, h, evenAddr_toNat, wrapPc_normal_toNat]
  omega

theorem nextPc_normal (s : State) (len : Addr) (h : s.params.mode = .normal) : (s.nextPc len).toNat < 2 ^ 16 := by
  rw [State.nextPc, h, wrapPc_normal_toNat]
  omega

/-- PC stays even past an instruction of an even number of bytes (R31). -/
theorem nextPc_even (s : State) (len : Addr) (hp : s.pc.getLsbD 0 = false) (hl : len.getLsbD 0 = false) :
    (s.nextPc len).getLsbD 0 = false := by
  have h : (s.pc + len).getLsbD 0 = false := by
    rw [getLsbD_zero_eq, decide_eq_false_iff_not] at hp hl ⊢
    rw [BitVec.toNat_add]
    omega
  unfold State.nextPc wrapPc
  split
  · rw [BitVec.getLsbD_and, h]; rfl
  · exact h

theorem fetchAt_next (s : State) (a : Addr) (k : State → Result) (t : State) (hu : s.undisturbed) :
    fetchAt s a k = .next t ↔ s.canRead16 a ∧ k (s.atPc a) = .next t := readWord_next _ _ _ _ _ hu

theorem fetchAt_of (s : State) (a : Addr) (k : State → Result) (hu : s.undisturbed) (h : s.canRead16 a) :
    fetchAt s a k = k (s.atPc a) := readWord_of _ _ _ _ hu h

theorem advance_next (len : Addr) (s : State) (k : State → Result) (t : State) (hu : s.undisturbed) :
    advance len s k = .next t ↔ s.canFetch len ∧ k (s.past len) = .next t := fetchAt_next _ _ _ _ hu

theorem advance_of (len : Addr) (s : State) (k : State → Result) (hu : s.undisturbed) (h : s.canFetch len) :
    advance len s k = k (s.past len) := fetchAt_of _ _ _ hu h

theorem goNext_next (len : Addr) (s t : State) (hu : s.undisturbed) :
    goNext len s = .next t ↔ s.canFetch len ∧ s.past len = t := by
  rw [goNext, advance_next _ _ _ _ hu, Host.Outcome.next.injEq]

theorem goNext_of (len : Addr) (s : State) (hu : s.undisturbed) (h : s.canFetch len) :
    goNext len s = .next (s.past len) := advance_of _ _ _ hu h

theorem goTo_next (a : Addr) (s t : State) (hu : s.undisturbed) :
    goTo a s = .next t ↔ s.canRead16 (s.loadPc a) ∧ s.atPc (s.loadPc a) = t := by
  rw [goTo, fetchAt_next _ _ _ _ hu, Host.Outcome.next.injEq]

theorem goTo_of (a : Addr) (s : State) (hu : s.undisturbed) (h : s.canRead16 (s.loadPc a)) :
    goTo a s = .next (s.atPc (s.loadPc a)) := fetchAt_of _ _ _ hu h

theorem discardNext_next (s : State) (k : State → Result) (t : State) (hu : s.undisturbed) :
    discardNext s k = .next t ↔ s.canFetch 2 ∧ k s.sawNext = .next t := readWord_next _ _ _ _ _ hu

theorem discardNext_of (s : State) (k : State → Result) (hu : s.undisturbed) (h : s.canFetch 2) :
    discardNext s k = k s.sawNext := readWord_of _ _ _ _ hu h

/-! ### The stack and the pointers -/

theorem loadPointer_next (s : State) (a : Addr) (k : Addr → State → Result) (t : State) (hu : s.undisturbed) :
    loadPointer s a k = .next t ↔ s.canReadPointer a ∧ k (s.pointerAt a) (s.sawPointer a) = .next t := by
  unfold loadPointer State.canReadPointer State.pointerAt State.sawPointer
  cases s.params.mode
  · exact load16_next _ _ _ _ hu
  · exact load32_next _ _ _ _ hu

theorem loadPointer_of (s : State) (a : Addr) (k : Addr → State → Result) (hu : s.undisturbed)
    (h : s.canReadPointer a) : loadPointer s a k = k (s.pointerAt a) (s.sawPointer a) := by
  unfold loadPointer State.pointerAt State.sawPointer
  unfold State.canReadPointer at h
  cases hm : s.params.mode <;> simp only [hm] at h ⊢
  · exact load16_of _ _ _ hu h
  · exact load32_of _ _ _ hu h

@[simp] theorem State.sawPointer_params (s : State) (a : Addr) : (s.sawPointer a).params = s.params := by
  unfold State.sawPointer; cases s.params.mode <;> rfl

@[simp] theorem State.sawPointer_env (s : State) (a : Addr) : (s.sawPointer a).env = s.env := by
  unfold State.sawPointer; cases s.params.mode <;> rfl

/-- The machine after `push_pc` (R413). -/
def State.pushed (s : State) (ret : Addr) : State :=
  match s.params.mode with
  | .normal => (s.write16 (low24 (s.er .er7 - 2)) (ret.extractLsb' 0 16)).setEr .er7 (s.er .er7 - 2)
  | .advanced =>
    ((s.write16 (low24 (s.er .er7 - 4)) (s.free8 0 ++ ret.extractLsb' 16 8)).write16 (low24 (s.er .er7 - 4) + 2)
      (ret.extractLsb' 0 16)).setEr .er7 (s.er .er7 - 4)

theorem pushPc_next (s : State) (ret : Addr) (k : State → Result) (t : State) (hu : s.undisturbed) :
    pushPc s ret k = .next t ↔ s.canPush ∧ k (s.pushed ret) = .next t := by
  unfold pushPc State.canPush State.pushed
  cases s.params.mode
  · exact store16_next _ _ _ _ _ hu
  · dsimp only
    rw [store16_next _ _ _ _ _ hu, store16_next (s.write16 _ _) _ _ _ _ hu, ← and_assoc (a := s.canWrite16 _)]
    rfl

theorem pushPc_of (s : State) (ret : Addr) (k : State → Result) (hu : s.undisturbed) (h : s.canPush) :
    pushPc s ret k = k (s.pushed ret) := by
  unfold pushPc State.pushed
  unfold State.canPush at h
  cases hm : s.params.mode <;> simp only [hm] at h ⊢
  · exact store16_of _ _ _ _ hu h
  · rw [store16_of _ _ _ _ hu h.1, store16_of (s.write16 _ _) _ _ _ hu h.2]

/-- The words of a subroutine's frame can be read. -/
def State.canPop (s : State) : Prop :=
  match s.params.mode with
  | .normal => s.canRead16 (s.eaAt .er7)
  | .advanced => s.canRead16 (s.eaAt .er7) ∧ s.canRead16 (s.eaAt .er7 + 2)

theorem popPc_of (s : State) (k : Addr → State → Result) (hu : s.undisturbed) (h : s.canPop) :
    popPc s k = k s.returnAddress (s.sawReturn.setEr .er7 (s.er .er7 + s.returnSize)) := by
  unfold popPc State.returnAddress State.sawReturn State.returnSize
  unfold State.canPop at h
  cases hm : s.params.mode <;> simp only [hm] at h ⊢
  · rw [load16_of _ _ _ hu h]; rfl
  · rw [load16_of _ _ _ hu h.1]
    exact load16_of (s.sawRead16 _) _ _ hu h.2

/-- The bytes the subroutine frame leaves. -/
theorem State.stored_pushed (s : State) (ret : Addr) : s.Stored (s.pushed ret) (s.returnFrame ret (s.free8 0)) := by
  unfold State.pushed State.returnFrame
  cases s.params.mode
  · exact (s.stored_write16 _ _).of_eq rfl rfl rfl rfl rfl rfl rfl rfl
  · refine State.Stored.of_eq ((s.stored_write16 (low24 (s.er .er7 - 4)) (s.free8 0 ++ ret.extractLsb' 16 8)).trans
      (State.stored_write16 _ (low24 (s.er .er7 - 4) + 2) (ret.extractLsb' 0 16)) rfl (storedWord_apart s _ _ _))
      rfl rfl rfl rfl rfl rfl rfl rfl

theorem State.pushed_regs (s : State) (ret : Addr) :
    (s.pushed ret).regs = (s.setEr .er7 (s.er .er7 - s.returnSize)).regs := by
  unfold State.pushed State.returnSize
  cases s.params.mode <;> rfl

theorem State.pushed_wf (s : State) (ret : Addr) (h : memWf s.mem = true) : memWf (s.pushed ret).mem = true := by
  unfold State.pushed
  cases s.params.mode <;> simp only [State.setEr_mem]
  · exact s.write16_wf _ _ h
  · exact State.write16_wf (s.write16 _ _) _ _ (s.write16_wf _ _ h)

@[simp] theorem State.pushed_pc (s : State) (ret : Addr) : (s.pushed ret).pc = s.pc := by
  unfold State.pushed; cases s.params.mode <;> simp

@[simp] theorem State.pushed_ccr (s : State) (ret : Addr) : (s.pushed ret).ccr = s.ccr := by
  unfold State.pushed; cases s.params.mode <;> simp

@[simp] theorem State.pushed_pf (s : State) (ret : Addr) : (s.pushed ret).pf = s.pf := by
  unfold State.pushed; cases s.params.mode <;> simp

theorem State.pushed_control (s : State) (ret : Addr) : s.SameControl (s.pushed ret) := by
  unfold State.pushed; cases s.params.mode <;> constructor <;> simp

/-! ### Exceptions -/

/-- The machine after an exception entry but for the vector's read, PC and the prefetched word (R520, R522). -/
def State.entered (s : State) (ret : Addr) : State :=
  { (((s.write16 (low24 (s.er .er7 - 4) + 2) (ret.extractLsb' 0 16)).write16 (low24 (s.er .er7 - 4))
      (s.frameHigh ret)).setEr .er7 (s.er .er7 - 4)).withCcr (entryCcr s.env.uiIsMask s.ccr) with proc := .run }

theorem exceptionEntry_of (s : State) (ret : Addr) (vec : Nat) (hu : s.undisturbed) (h : s.canEnter) :
    exceptionEntry s ret vec = loadPointer (s.entered ret) (vectorAddr s.params.mode vec) goTo := by
  unfold exceptionEntry
  rw [store16_of _ _ _ _ hu h.1, store16_of (s.write16 _ _) _ _ _ hu h.2]
  rfl

theorem exceptionEntry_next (s : State) (ret : Addr) (vec : Nat) (t : State) (hu : s.undisturbed) :
    exceptionEntry s ret vec = .next t ↔
      let u := s.entered ret
      let a := vectorAddr s.params.mode vec
      s.canEnter ∧ u.canReadPointer a ∧ u.canRead16 (s.loadPc (u.pointerAt a)) ∧
        (u.sawPointer a).atPc (s.loadPc (u.pointerAt a)) = t := by
  have e (b a) : ((s.entered ret).sawPointer a).loadPc b = s.loadPc b := by
    rw [State.loadPc, State.sawPointer_params]; rfl
  have f (b a) : ((s.entered ret).sawPointer a).canRead16 b ↔ (s.entered ret).canRead16 b := by
    simp only [State.canRead16, State.canRead8, State.phys, State.sawPointer_params]
  unfold exceptionEntry
  rw [store16_next _ _ _ _ _ hu, store16_next (s.write16 _ _) _ _ _ _ hu]
  refine and_assoc.symm.trans (and_congr_right fun _ => ?_)
  show loadPointer (s.entered ret) _ _ = .next t ↔ _
  rw [loadPointer_next (s.entered ret) _ _ _ hu,
    goTo_next _ _ _ (by rw [State.undisturbed, State.sawPointer_env]; exact hu), e, f]

/-- The bytes the exception frame leaves. -/
theorem State.stored_entered (s : State) (ret : Addr) :
    s.Stored (s.entered ret) (s.exceptionFrame ret (s.free8 0)) := by
  have h := (s.stored_write16 (low24 (s.er .er7 - 4) + 2) (ret.extractLsb' 0 16)).trans
    (State.stored_write16 _ (low24 (s.er .er7 - 4)) (s.frameHigh ret)) rfl (by
      intro x hx hn
      obtain ⟨y, hy, e⟩ := List.mem_map.mp hn
      exact storedWord_apart s (low24 (s.er .er7 - 4)) (s.frameHigh ret) (ret.extractLsb' 0 16) y hy
        (List.mem_map.mpr ⟨x, hx, e.symm⟩))
  have e : s.exceptionFrame ret (s.free8 0) = s.storedWord (low24 (s.er .er7 - 4) + 2) (ret.extractLsb' 0 16) ++
      s.storedWord (low24 (s.er .er7 - 4)) (s.frameHigh ret) := by
    unfold State.exceptionFrame State.frameHigh
    cases s.params.mode <;> rfl
  rw [e]
  exact State.Stored.of_eq h rfl rfl rfl rfl rfl rfl rfl rfl

theorem State.entered_wf (s : State) (ret : Addr) (h : memWf s.mem = true) : memWf (s.entered ret).mem = true :=
  State.write16_wf _ _ _ (s.write16_wf _ _ h)

/-- CCR after an exception entry, bit by bit (R522). -/
theorem entryCcr_get (ui : Bool) (ccr : Byte) (f : Flag) :
    ccrGet (entryCcr ui ccr) f = (ccrGet ccr f || decide (f = .i) || ui && decide (f = .ui)) := by
  unfold entryCcr
  cases ui <;> cases f <;> simp

/-- The address RTE loads into PC, before load_pc (R460). -/
def State.exceptionReturnAddress (s : State) : Addr :=
  let l := (s.sawRead16 (s.eaAt .er7)).read16 .data (s.eaAt .er7 + 2)
  match s.params.mode with
  | .normal => l.zeroExtend 24
  | .advanced => (s.read16 .data (s.eaAt .er7)).extractLsb' 0 8 ++ l

theorem exceptionReturn_next (s t : State) (hu : s.undisturbed) :
    exceptionReturn s = .next t ↔
      s.canRead16 (s.eaAt .er7) ∧ s.canRead16 (s.eaAt .er7 + 2) ∧ s.canRead16 (s.loadPc s.exceptionReturnAddress) ∧
        ((((s.sawRead16 (s.eaAt .er7)).sawRead16 (s.eaAt .er7 + 2)).setEr .er7 (s.er .er7 + 4)).withCcr
          ((s.read16 .data (s.eaAt .er7)).extractLsb' 8 8)).atPc (s.loadPc s.exceptionReturnAddress) = t := by
  unfold exceptionReturn
  rw [load16_next _ _ _ _ hu]
  refine and_congr_right fun _ => ?_
  rw [show State.eaAt (s.sawRead16 (s.eaAt .er7)) .er7 = s.eaAt .er7 from rfl, load16_next (s.sawRead16 _) _ _ _ hu]
  refine and_congr_right fun _ => ?_
  exact goTo_next _ _ _ hu

/-- What a detection point accepts: NMI, or else a request that is not masked (R510). -/
theorem acceptedRequest_cases (s : State) (vec : Nat) (env : Env) (h : s.acceptedRequest = some (vec, env)) :
    (s.env.nmi = some vec ∧ env = { s.env with nmi := none }) ∨
      ∃ r, s.env.nmi = none ∧ s.env.irq = some r ∧ s.masked r = false ∧ r.vector = vec ∧
        env = { s.env with irq := none } := by
  unfold State.acceptedRequest at h
  cases hn : s.env.nmi with
  | some v =>
    simp only [hn, Option.some.injEq, Prod.mk.injEq] at h
    exact .inl ⟨by rw [h.1], h.2.symm⟩
  | none =>
    cases hr : s.env.irq with
    | none => simp [hn, hr] at h
    | some r =>
      cases hm : s.masked r <;> simp only [hn, hr, hm] at h
      · simp only [Bool.false_eq_true, if_false, Option.some.injEq, Prod.mk.injEq] at h
        exact .inr ⟨r, rfl, rfl, hm, h.1, by rw [← h.2, ← hn]⟩
      · simp at h

/-- The machine after reset exception handling but for the vector's read, PC and the prefetched word (R562, R563). -/
def State.resetEntered (s : State) : State :=
  { s with
    regs := ⟨s.free32 0, s.free32 1, s.free32 2, s.free32 3, s.free32 4, s.free32 5, s.free32 6, s.free32 7⟩
    ccr := ccrPut (s.free8 8) .i true, intInhibit := true, proc := .run }

theorem resetException_next (s t : State) (hu : s.undisturbed) :
    resetException s = .next t ↔
      s.canReadPointer s.params.resetVector ∧
        s.canRead16 (s.loadPc (s.pointerAt s.params.resetVector)) ∧
        (s.resetEntered.sawPointer s.params.resetVector).atPc (s.loadPc (s.pointerAt s.params.resetVector)) = t := by
  have e (b a) : (s.resetEntered.sawPointer a).loadPc b = s.loadPc b := by
    rw [State.loadPc, State.sawPointer_params]; rfl
  have f (b a) : (s.resetEntered.sawPointer a).canRead16 b ↔ s.canRead16 b := by
    simp only [State.canRead16, State.canRead8, State.phys, State.sawPointer_params]; rfl
  unfold resetException
  show loadPointer s.resetEntered _ _ = _ ↔ _
  rw [loadPointer_next s.resetEntered _ _ _ hu, goTo_next _ _ _ (by rw [State.undisturbed, State.sawPointer_env]; exact hu), e, f]
  rfl

/-! ### Block transfers -/

theorem dummyReads_of (s : State) (k : State → Result) (hu : s.undisturbed) (h5 : s.canRead8 (s.eaAt .er5))
    (h6 : s.canRead8 (s.eaAt .er6)) :
    dummyReads s k = k ((s.sawRead8 (s.eaAt .er5)).sawRead8 (s.eaAt .er6)) := by
  rw [dummyReads, load8_of _ _ _ hu h5]
  exact load8_of (s.sawRead8 _) _ _ hu h6

/-- The machine after one byte of a block transfer. -/
def State.transferred (s : State) : State :=
  (((s.sawRead8 (s.eaAt .er5)).write8 (s.eaAt .er6) (s.read8 .data (s.eaAt .er5))).setEr .er5 (s.er .er5 + 1)).setEr .er6
    (s.er .er6 + 1)

theorem transferByte_of (s : State) (k : State → Result) (hu : s.undisturbed) (h5 : s.canRead8 (s.eaAt .er5))
    (h6 : s.canWrite8 (s.eaAt .er6)) : transferByte s k = k s.transferred := by
  rw [transferByte, load8_of _ _ _ hu h5]
  exact store8_of (s.sawRead8 _) _ _ _ hu h6

/-! ### Processing states -/

/-- A step with its inputs sampled, by what it finds: standby, leaving it, reset, or the processing state. -/
theorem pinStep_next (s t : State) (h : pinStep s = .next t) :
    (s.env.stbyLow = true ∧ t = { s with proc := .hardwareStandby }) ∨
      (s.env.stbyLow = false ∧ s.proc = .hardwareStandby ∧ t = leaveHardwareStandby s) ∨
      (s.env.stbyLow = false ∧ s.proc ≠ .hardwareStandby ∧ s.env.resLow = true ∧ t = enterReset s) ∨
      (s.env.stbyLow = false ∧ s.proc ≠ .hardwareStandby ∧ s.env.resLow = false ∧ stateStep s = .next t) := by
  unfold pinStep at h
  split at h
  · cases h; exact .inl ⟨by assumption, rfl⟩
  · rename_i h1
    simp only [Bool.not_eq_true] at h1
    split at h
    · cases h; exact .inr (.inl ⟨h1, by assumption, rfl⟩)
    · split at h
      · cases h; exact .inr (.inr (.inl ⟨h1, by assumption, by assumption, rfl⟩))
      · exact .inr (.inr (.inr ⟨h1, by assumption, by simpa using ‹¬ s.env.resLow = true›, h⟩))

/-- The words ahead after one of them was fetched. -/
theorem State.wordsAhead_succ (s : State) (off n : Nat) :
    s.wordsAhead off (n + 1) = s.read16 .extension (s.nextPc (BitVec.ofNat 24 off)) ::
      (s.sawRead16 (s.nextPc (BitVec.ofNat 24 off))).wordsAhead (off + 2) n := rfl

/-- With the words `got` fetched, the `n` others that R125 counts to the code are fetched where they can be read, and the
words then executed. -/
theorem executeFrom_of (left : Nat) (got : List Word) (s : State) (n : Nat) (hu : s.undisturbed) (hg : got ≠ [])
    (hc : codeLength ((got ++ s.wordsAhead (2 * got.length) n).flatMap nibs16) = 2 * (got.length + n)) (hl : n ≤ left)
    (hr : ∀ k, k < n → s.canRead16 (s.nextPc (BitVec.ofNat 24 (2 * (got.length + k))))) :
    executeFrom left got s =
      executeWords (got ++ s.wordsAhead (2 * got.length) n) (s.sawWords (2 * got.length) n) := by
  induction left generalizing got s n with
  | zero =>
    obtain rfl : n = 0 := by omega
    rw [State.wordsAhead, List.append_nil]; rfl
  | succ left ih =>
    rw [executeFrom]
    cases n with
    | zero =>
      rw [State.wordsAhead, List.append_nil] at hc ⊢
      rw [if_neg (by omega)]; rfl
    | succ n =>
      rw [if_pos (by
          rcases codeLength_words got (s.wordsAhead (2 * got.length) (n + 1)) hg with h | ⟨h1, h4, -⟩
          · omega
          · omega),
        readWord_of .extension s (s.nextPc (BitVec.ofNat 24 (2 * got.length))) _ hu (hr 0 (by omega))]
      have hlen : (got ++ [s.read16 .extension (s.nextPc (BitVec.ofNat 24 (2 * got.length)))]).length =
          got.length + 1 := by simp
      have hw : (got ++ [s.read16 .extension (s.nextPc (BitVec.ofNat 24 (2 * got.length)))]) ++
          (s.sawRead16 (s.nextPc (BitVec.ofNat 24 (2 * got.length)))).wordsAhead (2 * (got.length + 1)) n =
          got ++ s.wordsAhead (2 * got.length) (n + 1) := by
        rw [List.append_assoc]; rfl
      rw [ih _ (s.sawRead16 (s.nextPc (BitVec.ofNat 24 (2 * got.length)))) n hu (by simp) ?_ (by omega) ?_, hlen, hw]
      · rfl
      · rw [hlen, hw, hc]; omega
      · intro k hk
        have := hr (k + 1) (by omega)
        rw [hlen, show got.length + 1 + k = got.length + (k + 1) by omega]
        exact this

end Sys2Proof.Machine
end

