-- ==== Sys2Proof/Laws/PerInstr.lean ====
section
/-! SUPPORT. Statements about every instruction, one lemma per constructor. -/

namespace Sys2Proof.Laws

/-- The code of the instruction has the length the spec gives it: one to five words of four digits (30_encoding R101,
R125). -/
def EncodedLength.Statement (i : Instr) : Prop :=
  (encodeNibs i).length = 4 * (i.length / 2) ∧ (encode i).length = i.length / 2 ∧ i.length % 2 = 0 ∧
    2 ≤ i.length ∧ i.length ≤ 10

theorem EncodedLength.of_words (i : Instr) (n : Nat) (hn : (encodeNibs i).length = 4 * n) (hw : (encode i).length = n)
    (hl : i.length = 2 * n) (hr : 1 ≤ n ∧ n ≤ 5) : EncodedLength.Statement i := by
  have e : i.length / 2 = n := by omega
  exact ⟨by rw [e, hn], by rw [e, hw], by omega, by omega, by omega⟩

theorem EncodedLength.movBRsRd (rs : R8) (rd : R8) : EncodedLength.Statement (.movBRsRd rs rd) :=
  EncodedLength.of_words _ 1 rfl rfl rfl (by decide)
theorem EncodedLength.movWRsRd (rs : R16) (rd : R16) : EncodedLength.Statement (.movWRsRd rs rd) :=
  EncodedLength.of_words _ 1 rfl rfl rfl (by decide)
theorem EncodedLength.movLERsERd (ers : ERn) (erd : ERn) : EncodedLength.Statement (.movLERsERd ers erd) :=
  EncodedLength.of_words _ 1 rfl rfl rfl (by decide)
theorem EncodedLength.movBImm8Rd (imm8 : Byte) (rd : R8) : EncodedLength.Statement (.movBImm8Rd imm8 rd) :=
  EncodedLength.of_words _ 1 rfl rfl rfl (by decide)
theorem EncodedLength.movBAtERsRd (ers : ERn) (rd : R8) : EncodedLength.Statement (.movBAtERsRd ers rd) :=
  EncodedLength.of_words _ 1 rfl rfl rfl (by decide)
theorem EncodedLength.movBD16ERsRd (disp16 : Word) (ers : ERn) (rd : R8) : EncodedLength.Statement (.movBD16ERsRd disp16 ers rd) :=
  EncodedLength.of_words _ 2 rfl rfl rfl (by decide)
theorem EncodedLength.movBD24ERsRd (disp24 : Addr) (ers : ERn) (rd : R8) : EncodedLength.Statement (.movBD24ERsRd disp24 ers rd) :=
  EncodedLength.of_words _ 4 rfl rfl rfl (by decide)
theorem EncodedLength.movBPostERsRd (ers : ERn) (rd : R8) : EncodedLength.Statement (.movBPostERsRd ers rd) :=
  EncodedLength.of_words _ 1 rfl rfl rfl (by decide)
theorem EncodedLength.movBAbs8Rd (abs8 : Byte) (rd : R8) : EncodedLength.Statement (.movBAbs8Rd abs8 rd) :=
  EncodedLength.of_words _ 1 rfl rfl rfl (by decide)
theorem EncodedLength.movBAbs16Rd (abs16 : Word) (rd : R8) : EncodedLength.Statement (.movBAbs16Rd abs16 rd) :=
  EncodedLength.of_words _ 2 rfl rfl rfl (by decide)
theorem EncodedLength.movBAbs24Rd (abs24 : Addr) (rd : R8) : EncodedLength.Statement (.movBAbs24Rd abs24 rd) :=
  EncodedLength.of_words _ 3 rfl rfl rfl (by decide)
theorem EncodedLength.movWImm16Rd (imm16 : Word) (rd : R16) : EncodedLength.Statement (.movWImm16Rd imm16 rd) :=
  EncodedLength.of_words _ 2 rfl rfl rfl (by decide)
theorem EncodedLength.movWAtERsRd (ers : ERn) (rd : R16) : EncodedLength.Statement (.movWAtERsRd ers rd) :=
  EncodedLength.of_words _ 1 rfl rfl rfl (by decide)
theorem EncodedLength.movWD16ERsRd (disp16 : Word) (ers : ERn) (rd : R16) : EncodedLength.Statement (.movWD16ERsRd disp16 ers rd) :=
  EncodedLength.of_words _ 2 rfl rfl rfl (by decide)
theorem EncodedLength.movWD24ERsRd (disp24 : Addr) (ers : ERn) (rd : R16) : EncodedLength.Statement (.movWD24ERsRd disp24 ers rd) :=
  EncodedLength.of_words _ 4 rfl rfl rfl (by decide)
theorem EncodedLength.movWPostERsRd (ers : ERn) (rd : R16) : EncodedLength.Statement (.movWPostERsRd ers rd) :=
  EncodedLength.of_words _ 1 rfl rfl rfl (by decide)
theorem EncodedLength.movWAbs16Rd (abs16 : Word) (rd : R16) : EncodedLength.Statement (.movWAbs16Rd abs16 rd) :=
  EncodedLength.of_words _ 2 rfl rfl rfl (by decide)
theorem EncodedLength.movWAbs24Rd (abs24 : Addr) (rd : R16) : EncodedLength.Statement (.movWAbs24Rd abs24 rd) :=
  EncodedLength.of_words _ 3 rfl rfl rfl (by decide)
theorem EncodedLength.movLImm32ERd (imm32 : Long) (erd : ERn) : EncodedLength.Statement (.movLImm32ERd imm32 erd) :=
  EncodedLength.of_words _ 3 rfl rfl rfl (by decide)
theorem EncodedLength.movLAtERsERd (ers : ERn) (erd : ERn) : EncodedLength.Statement (.movLAtERsERd ers erd) :=
  EncodedLength.of_words _ 2 rfl rfl rfl (by decide)
theorem EncodedLength.movLD16ERsERd (disp16 : Word) (ers : ERn) (erd : ERn) : EncodedLength.Statement (.movLD16ERsERd disp16 ers erd) :=
  EncodedLength.of_words _ 3 rfl rfl rfl (by decide)
theorem EncodedLength.movLD24ERsERd (disp24 : Addr) (ers : ERn) (erd : ERn) : EncodedLength.Statement (.movLD24ERsERd disp24 ers erd) :=
  EncodedLength.of_words _ 5 rfl rfl rfl (by decide)
theorem EncodedLength.movLPostERsERd (ers : ERn) (erd : ERn) : EncodedLength.Statement (.movLPostERsERd ers erd) :=
  EncodedLength.of_words _ 2 rfl rfl rfl (by decide)
theorem EncodedLength.movLAbs16ERd (abs16 : Word) (erd : ERn) : EncodedLength.Statement (.movLAbs16ERd abs16 erd) :=
  EncodedLength.of_words _ 3 rfl rfl rfl (by decide)
theorem EncodedLength.movLAbs24ERd (abs24 : Addr) (erd : ERn) : EncodedLength.Statement (.movLAbs24ERd abs24 erd) :=
  EncodedLength.of_words _ 4 rfl rfl rfl (by decide)
theorem EncodedLength.movBRsAtERd (rs : R8) (erd : ERn) : EncodedLength.Statement (.movBRsAtERd rs erd) :=
  EncodedLength.of_words _ 1 rfl rfl rfl (by decide)
theorem EncodedLength.movBRsD16ERd (rs : R8) (disp16 : Word) (erd : ERn) : EncodedLength.Statement (.movBRsD16ERd rs disp16 erd) :=
  EncodedLength.of_words _ 2 rfl rfl rfl (by decide)
theorem EncodedLength.movBRsD24ERd (rs : R8) (disp24 : Addr) (erd : ERn) : EncodedLength.Statement (.movBRsD24ERd rs disp24 erd) :=
  EncodedLength.of_words _ 4 rfl rfl rfl (by decide)
theorem EncodedLength.movBRsPreERd (rs : R8) (erd : ERn) : EncodedLength.Statement (.movBRsPreERd rs erd) :=
  EncodedLength.of_words _ 1 rfl rfl rfl (by decide)
theorem EncodedLength.movBRsAbs8 (rs : R8) (abs8 : Byte) : EncodedLength.Statement (.movBRsAbs8 rs abs8) :=
  EncodedLength.of_words _ 1 rfl rfl rfl (by decide)
theorem EncodedLength.movBRsAbs16 (rs : R8) (abs16 : Word) : EncodedLength.Statement (.movBRsAbs16 rs abs16) :=
  EncodedLength.of_words _ 2 rfl rfl rfl (by decide)
theorem EncodedLength.movBRsAbs24 (rs : R8) (abs24 : Addr) : EncodedLength.Statement (.movBRsAbs24 rs abs24) :=
  EncodedLength.of_words _ 3 rfl rfl rfl (by decide)
theorem EncodedLength.movWRsAtERd (rs : R16) (erd : ERn) : EncodedLength.Statement (.movWRsAtERd rs erd) :=
  EncodedLength.of_words _ 1 rfl rfl rfl (by decide)
theorem EncodedLength.movWRsD16ERd (rs : R16) (disp16 : Word) (erd : ERn) : EncodedLength.Statement (.movWRsD16ERd rs disp16 erd) :=
  EncodedLength.of_words _ 2 rfl rfl rfl (by decide)
theorem EncodedLength.movWRsD24ERd (rs : R16) (disp24 : Addr) (erd : ERn) : EncodedLength.Statement (.movWRsD24ERd rs disp24 erd) :=
  EncodedLength.of_words _ 4 rfl rfl rfl (by decide)
theorem EncodedLength.movWRsPreERd (rs : R16) (erd : ERn) : EncodedLength.Statement (.movWRsPreERd rs erd) :=
  EncodedLength.of_words _ 1 rfl rfl rfl (by decide)
theorem EncodedLength.movWRsAbs16 (rs : R16) (abs16 : Word) : EncodedLength.Statement (.movWRsAbs16 rs abs16) :=
  EncodedLength.of_words _ 2 rfl rfl rfl (by decide)
theorem EncodedLength.movWRsAbs24 (rs : R16) (abs24 : Addr) : EncodedLength.Statement (.movWRsAbs24 rs abs24) :=
  EncodedLength.of_words _ 3 rfl rfl rfl (by decide)
theorem EncodedLength.movLERsAtERd (ers : ERn) (erd : ERn) : EncodedLength.Statement (.movLERsAtERd ers erd) :=
  EncodedLength.of_words _ 2 rfl rfl rfl (by decide)
theorem EncodedLength.movLERsD16ERd (ers : ERn) (disp16 : Word) (erd : ERn) : EncodedLength.Statement (.movLERsD16ERd ers disp16 erd) :=
  EncodedLength.of_words _ 3 rfl rfl rfl (by decide)
theorem EncodedLength.movLERsD24ERd (ers : ERn) (disp24 : Addr) (erd : ERn) : EncodedLength.Statement (.movLERsD24ERd ers disp24 erd) :=
  EncodedLength.of_words _ 5 rfl rfl rfl (by decide)
theorem EncodedLength.movLERsPreERd (ers : ERn) (erd : ERn) : EncodedLength.Statement (.movLERsPreERd ers erd) :=
  EncodedLength.of_words _ 2 rfl rfl rfl (by decide)
theorem EncodedLength.movLERsAbs16 (ers : ERn) (abs16 : Word) : EncodedLength.Statement (.movLERsAbs16 ers abs16) :=
  EncodedLength.of_words _ 3 rfl rfl rfl (by decide)
theorem EncodedLength.movLERsAbs24 (ers : ERn) (abs24 : Addr) : EncodedLength.Statement (.movLERsAbs24 ers abs24) :=
  EncodedLength.of_words _ 4 rfl rfl rfl (by decide)
theorem EncodedLength.movfpeAbs16Rd (abs16 : Word) (rd : R8) : EncodedLength.Statement (.movfpeAbs16Rd abs16 rd) :=
  EncodedLength.of_words _ 2 rfl rfl rfl (by decide)
theorem EncodedLength.movtpeRsAbs16 (rs : R8) (abs16 : Word) : EncodedLength.Statement (.movtpeRsAbs16 rs abs16) :=
  EncodedLength.of_words _ 2 rfl rfl rfl (by decide)
theorem EncodedLength.popWRn (rn : R16) : EncodedLength.Statement (.popWRn rn) :=
  EncodedLength.of_words _ 1 rfl rfl rfl (by decide)
theorem EncodedLength.popLERn (ern : ERn) : EncodedLength.Statement (.popLERn ern) :=
  EncodedLength.of_words _ 2 rfl rfl rfl (by decide)
theorem EncodedLength.pushWRn (rn : R16) : EncodedLength.Statement (.pushWRn rn) :=
  EncodedLength.of_words _ 1 rfl rfl rfl (by decide)
theorem EncodedLength.pushLERn (ern : ERn) : EncodedLength.Statement (.pushLERn ern) :=
  EncodedLength.of_words _ 2 rfl rfl rfl (by decide)
theorem EncodedLength.addBImm8Rd (imm8 : Byte) (rd : R8) : EncodedLength.Statement (.addBImm8Rd imm8 rd) :=
  EncodedLength.of_words _ 1 rfl rfl rfl (by decide)
theorem EncodedLength.addBRsRd (rs : R8) (rd : R8) : EncodedLength.Statement (.addBRsRd rs rd) :=
  EncodedLength.of_words _ 1 rfl rfl rfl (by decide)
theorem EncodedLength.addWImm16Rd (imm16 : Word) (rd : R16) : EncodedLength.Statement (.addWImm16Rd imm16 rd) :=
  EncodedLength.of_words _ 2 rfl rfl rfl (by decide)
theorem EncodedLength.addWRsRd (rs : R16) (rd : R16) : EncodedLength.Statement (.addWRsRd rs rd) :=
  EncodedLength.of_words _ 1 rfl rfl rfl (by decide)
theorem EncodedLength.addLImm32ERd (imm32 : Long) (erd : ERn) : EncodedLength.Statement (.addLImm32ERd imm32 erd) :=
  EncodedLength.of_words _ 3 rfl rfl rfl (by decide)
theorem EncodedLength.addLERsERd (ers : ERn) (erd : ERn) : EncodedLength.Statement (.addLERsERd ers erd) :=
  EncodedLength.of_words _ 1 rfl rfl rfl (by decide)
theorem EncodedLength.addsOneERd (erd : ERn) : EncodedLength.Statement (.addsOneERd erd) :=
  EncodedLength.of_words _ 1 rfl rfl rfl (by decide)
theorem EncodedLength.addsTwoERd (erd : ERn) : EncodedLength.Statement (.addsTwoERd erd) :=
  EncodedLength.of_words _ 1 rfl rfl rfl (by decide)
theorem EncodedLength.addsFourERd (erd : ERn) : EncodedLength.Statement (.addsFourERd erd) :=
  EncodedLength.of_words _ 1 rfl rfl rfl (by decide)
theorem EncodedLength.addxImm8Rd (imm8 : Byte) (rd : R8) : EncodedLength.Statement (.addxImm8Rd imm8 rd) :=
  EncodedLength.of_words _ 1 rfl rfl rfl (by decide)
theorem EncodedLength.addxRsRd (rs : R8) (rd : R8) : EncodedLength.Statement (.addxRsRd rs rd) :=
  EncodedLength.of_words _ 1 rfl rfl rfl (by decide)
theorem EncodedLength.cmpBImm8Rd (imm8 : Byte) (rd : R8) : EncodedLength.Statement (.cmpBImm8Rd imm8 rd) :=
  EncodedLength.of_words _ 1 rfl rfl rfl (by decide)
theorem EncodedLength.cmpBRsRd (rs : R8) (rd : R8) : EncodedLength.Statement (.cmpBRsRd rs rd) :=
  EncodedLength.of_words _ 1 rfl rfl rfl (by decide)
theorem EncodedLength.cmpWImm16Rd (imm16 : Word) (rd : R16) : EncodedLength.Statement (.cmpWImm16Rd imm16 rd) :=
  EncodedLength.of_words _ 2 rfl rfl rfl (by decide)
theorem EncodedLength.cmpWRsRd (rs : R16) (rd : R16) : EncodedLength.Statement (.cmpWRsRd rs rd) :=
  EncodedLength.of_words _ 1 rfl rfl rfl (by decide)
theorem EncodedLength.cmpLImm32ERd (imm32 : Long) (erd : ERn) : EncodedLength.Statement (.cmpLImm32ERd imm32 erd) :=
  EncodedLength.of_words _ 3 rfl rfl rfl (by decide)
theorem EncodedLength.cmpLERsERd (ers : ERn) (erd : ERn) : EncodedLength.Statement (.cmpLERsERd ers erd) :=
  EncodedLength.of_words _ 1 rfl rfl rfl (by decide)
theorem EncodedLength.subBRsRd (rs : R8) (rd : R8) : EncodedLength.Statement (.subBRsRd rs rd) :=
  EncodedLength.of_words _ 1 rfl rfl rfl (by decide)
theorem EncodedLength.subWImm16Rd (imm16 : Word) (rd : R16) : EncodedLength.Statement (.subWImm16Rd imm16 rd) :=
  EncodedLength.of_words _ 2 rfl rfl rfl (by decide)
theorem EncodedLength.subWRsRd (rs : R16) (rd : R16) : EncodedLength.Statement (.subWRsRd rs rd) :=
  EncodedLength.of_words _ 1 rfl rfl rfl (by decide)
theorem EncodedLength.subLImm32ERd (imm32 : Long) (erd : ERn) : EncodedLength.Statement (.subLImm32ERd imm32 erd) :=
  EncodedLength.of_words _ 3 rfl rfl rfl (by decide)
theorem EncodedLength.subLERsERd (ers : ERn) (erd : ERn) : EncodedLength.Statement (.subLERsERd ers erd) :=
  EncodedLength.of_words _ 1 rfl rfl rfl (by decide)
theorem EncodedLength.subsOneERd (erd : ERn) : EncodedLength.Statement (.subsOneERd erd) :=
  EncodedLength.of_words _ 1 rfl rfl rfl (by decide)
theorem EncodedLength.subsTwoERd (erd : ERn) : EncodedLength.Statement (.subsTwoERd erd) :=
  EncodedLength.of_words _ 1 rfl rfl rfl (by decide)
theorem EncodedLength.subsFourERd (erd : ERn) : EncodedLength.Statement (.subsFourERd erd) :=
  EncodedLength.of_words _ 1 rfl rfl rfl (by decide)
theorem EncodedLength.subxImm8Rd (imm8 : Byte) (rd : R8) : EncodedLength.Statement (.subxImm8Rd imm8 rd) :=
  EncodedLength.of_words _ 1 rfl rfl rfl (by decide)
theorem EncodedLength.subxRsRd (rs : R8) (rd : R8) : EncodedLength.Statement (.subxRsRd rs rd) :=
  EncodedLength.of_words _ 1 rfl rfl rfl (by decide)
theorem EncodedLength.daaRd (rd : R8) : EncodedLength.Statement (.daaRd rd) :=
  EncodedLength.of_words _ 1 rfl rfl rfl (by decide)
theorem EncodedLength.dasRd (rd : R8) : EncodedLength.Statement (.dasRd rd) :=
  EncodedLength.of_words _ 1 rfl rfl rfl (by decide)
theorem EncodedLength.incBRd (rd : R8) : EncodedLength.Statement (.incBRd rd) :=
  EncodedLength.of_words _ 1 rfl rfl rfl (by decide)
theorem EncodedLength.incWOneRd (rd : R16) : EncodedLength.Statement (.incWOneRd rd) :=
  EncodedLength.of_words _ 1 rfl rfl rfl (by decide)
theorem EncodedLength.incWTwoRd (rd : R16) : EncodedLength.Statement (.incWTwoRd rd) :=
  EncodedLength.of_words _ 1 rfl rfl rfl (by decide)
theorem EncodedLength.incLOneERd (erd : ERn) : EncodedLength.Statement (.incLOneERd erd) :=
  EncodedLength.of_words _ 1 rfl rfl rfl (by decide)
theorem EncodedLength.incLTwoERd (erd : ERn) : EncodedLength.Statement (.incLTwoERd erd) :=
  EncodedLength.of_words _ 1 rfl rfl rfl (by decide)
theorem EncodedLength.decBRd (rd : R8) : EncodedLength.Statement (.decBRd rd) :=
  EncodedLength.of_words _ 1 rfl rfl rfl (by decide)
theorem EncodedLength.decWOneRd (rd : R16) : EncodedLength.Statement (.decWOneRd rd) :=
  EncodedLength.of_words _ 1 rfl rfl rfl (by decide)
theorem EncodedLength.decWTwoRd (rd : R16) : EncodedLength.Statement (.decWTwoRd rd) :=
  EncodedLength.of_words _ 1 rfl rfl rfl (by decide)
theorem EncodedLength.decLOneERd (erd : ERn) : EncodedLength.Statement (.decLOneERd erd) :=
  EncodedLength.of_words _ 1 rfl rfl rfl (by decide)
theorem EncodedLength.decLTwoERd (erd : ERn) : EncodedLength.Statement (.decLTwoERd erd) :=
  EncodedLength.of_words _ 1 rfl rfl rfl (by decide)
theorem EncodedLength.negBRd (rd : R8) : EncodedLength.Statement (.negBRd rd) :=
  EncodedLength.of_words _ 1 rfl rfl rfl (by decide)
theorem EncodedLength.negWRd (rd : R16) : EncodedLength.Statement (.negWRd rd) :=
  EncodedLength.of_words _ 1 rfl rfl rfl (by decide)
theorem EncodedLength.negLERd (erd : ERn) : EncodedLength.Statement (.negLERd erd) :=
  EncodedLength.of_words _ 1 rfl rfl rfl (by decide)
theorem EncodedLength.extuWRd (rd : R16) : EncodedLength.Statement (.extuWRd rd) :=
  EncodedLength.of_words _ 1 rfl rfl rfl (by decide)
theorem EncodedLength.extuLERd (erd : ERn) : EncodedLength.Statement (.extuLERd erd) :=
  EncodedLength.of_words _ 1 rfl rfl rfl (by decide)
theorem EncodedLength.extsWRd (rd : R16) : EncodedLength.Statement (.extsWRd rd) :=
  EncodedLength.of_words _ 1 rfl rfl rfl (by decide)
theorem EncodedLength.extsLERd (erd : ERn) : EncodedLength.Statement (.extsLERd erd) :=
  EncodedLength.of_words _ 1 rfl rfl rfl (by decide)
theorem EncodedLength.mulxuBRsRd (rs : R8) (rd : R16) : EncodedLength.Statement (.mulxuBRsRd rs rd) :=
  EncodedLength.of_words _ 1 rfl rfl rfl (by decide)
theorem EncodedLength.mulxuWRsERd (rs : R16) (erd : ERn) : EncodedLength.Statement (.mulxuWRsERd rs erd) :=
  EncodedLength.of_words _ 1 rfl rfl rfl (by decide)
theorem EncodedLength.mulxsBRsRd (rs : R8) (rd : R16) : EncodedLength.Statement (.mulxsBRsRd rs rd) :=
  EncodedLength.of_words _ 2 rfl rfl rfl (by decide)
theorem EncodedLength.mulxsWRsERd (rs : R16) (erd : ERn) : EncodedLength.Statement (.mulxsWRsERd rs erd) :=
  EncodedLength.of_words _ 2 rfl rfl rfl (by decide)
theorem EncodedLength.divxuBRsRd (rs : R8) (rd : R16) : EncodedLength.Statement (.divxuBRsRd rs rd) :=
  EncodedLength.of_words _ 1 rfl rfl rfl (by decide)
theorem EncodedLength.divxuWRsERd (rs : R16) (erd : ERn) : EncodedLength.Statement (.divxuWRsERd rs erd) :=
  EncodedLength.of_words _ 1 rfl rfl rfl (by decide)
theorem EncodedLength.divxsBRsRd (rs : R8) (rd : R16) : EncodedLength.Statement (.divxsBRsRd rs rd) :=
  EncodedLength.of_words _ 2 rfl rfl rfl (by decide)
theorem EncodedLength.divxsWRsERd (rs : R16) (erd : ERn) : EncodedLength.Statement (.divxsWRsERd rs erd) :=
  EncodedLength.of_words _ 2 rfl rfl rfl (by decide)
theorem EncodedLength.andBImm8Rd (imm8 : Byte) (rd : R8) : EncodedLength.Statement (.andBImm8Rd imm8 rd) :=
  EncodedLength.of_words _ 1 rfl rfl rfl (by decide)
theorem EncodedLength.andBRsRd (rs : R8) (rd : R8) : EncodedLength.Statement (.andBRsRd rs rd) :=
  EncodedLength.of_words _ 1 rfl rfl rfl (by decide)
theorem EncodedLength.andWImm16Rd (imm16 : Word) (rd : R16) : EncodedLength.Statement (.andWImm16Rd imm16 rd) :=
  EncodedLength.of_words _ 2 rfl rfl rfl (by decide)
theorem EncodedLength.andWRsRd (rs : R16) (rd : R16) : EncodedLength.Statement (.andWRsRd rs rd) :=
  EncodedLength.of_words _ 1 rfl rfl rfl (by decide)
theorem EncodedLength.andLImm32ERd (imm32 : Long) (erd : ERn) : EncodedLength.Statement (.andLImm32ERd imm32 erd) :=
  EncodedLength.of_words _ 3 rfl rfl rfl (by decide)
theorem EncodedLength.andLERsERd (ers : ERn) (erd : ERn) : EncodedLength.Statement (.andLERsERd ers erd) :=
  EncodedLength.of_words _ 2 rfl rfl rfl (by decide)
theorem EncodedLength.orBImm8Rd (imm8 : Byte) (rd : R8) : EncodedLength.Statement (.orBImm8Rd imm8 rd) :=
  EncodedLength.of_words _ 1 rfl rfl rfl (by decide)
theorem EncodedLength.orBRsRd (rs : R8) (rd : R8) : EncodedLength.Statement (.orBRsRd rs rd) :=
  EncodedLength.of_words _ 1 rfl rfl rfl (by decide)
theorem EncodedLength.orWImm16Rd (imm16 : Word) (rd : R16) : EncodedLength.Statement (.orWImm16Rd imm16 rd) :=
  EncodedLength.of_words _ 2 rfl rfl rfl (by decide)
theorem EncodedLength.orWRsRd (rs : R16) (rd : R16) : EncodedLength.Statement (.orWRsRd rs rd) :=
  EncodedLength.of_words _ 1 rfl rfl rfl (by decide)
theorem EncodedLength.orLImm32ERd (imm32 : Long) (erd : ERn) : EncodedLength.Statement (.orLImm32ERd imm32 erd) :=
  EncodedLength.of_words _ 3 rfl rfl rfl (by decide)
theorem EncodedLength.orLERsERd (ers : ERn) (erd : ERn) : EncodedLength.Statement (.orLERsERd ers erd) :=
  EncodedLength.of_words _ 2 rfl rfl rfl (by decide)
theorem EncodedLength.xorBImm8Rd (imm8 : Byte) (rd : R8) : EncodedLength.Statement (.xorBImm8Rd imm8 rd) :=
  EncodedLength.of_words _ 1 rfl rfl rfl (by decide)
theorem EncodedLength.xorBRsRd (rs : R8) (rd : R8) : EncodedLength.Statement (.xorBRsRd rs rd) :=
  EncodedLength.of_words _ 1 rfl rfl rfl (by decide)
theorem EncodedLength.xorWImm16Rd (imm16 : Word) (rd : R16) : EncodedLength.Statement (.xorWImm16Rd imm16 rd) :=
  EncodedLength.of_words _ 2 rfl rfl rfl (by decide)
theorem EncodedLength.xorWRsRd (rs : R16) (rd : R16) : EncodedLength.Statement (.xorWRsRd rs rd) :=
  EncodedLength.of_words _ 1 rfl rfl rfl (by decide)
theorem EncodedLength.xorLImm32ERd (imm32 : Long) (erd : ERn) : EncodedLength.Statement (.xorLImm32ERd imm32 erd) :=
  EncodedLength.of_words _ 3 rfl rfl rfl (by decide)
theorem EncodedLength.xorLERsERd (ers : ERn) (erd : ERn) : EncodedLength.Statement (.xorLERsERd ers erd) :=
  EncodedLength.of_words _ 2 rfl rfl rfl (by decide)
theorem EncodedLength.notBRd (rd : R8) : EncodedLength.Statement (.notBRd rd) :=
  EncodedLength.of_words _ 1 rfl rfl rfl (by decide)
theorem EncodedLength.notWRd (rd : R16) : EncodedLength.Statement (.notWRd rd) :=
  EncodedLength.of_words _ 1 rfl rfl rfl (by decide)
theorem EncodedLength.notLERd (erd : ERn) : EncodedLength.Statement (.notLERd erd) :=
  EncodedLength.of_words _ 1 rfl rfl rfl (by decide)
theorem EncodedLength.shalBRd (rd : R8) : EncodedLength.Statement (.shalBRd rd) :=
  EncodedLength.of_words _ 1 rfl rfl rfl (by decide)
theorem EncodedLength.shalWRd (rd : R16) : EncodedLength.Statement (.shalWRd rd) :=
  EncodedLength.of_words _ 1 rfl rfl rfl (by decide)
theorem EncodedLength.shalLERd (erd : ERn) : EncodedLength.Statement (.shalLERd erd) :=
  EncodedLength.of_words _ 1 rfl rfl rfl (by decide)
theorem EncodedLength.sharBRd (rd : R8) : EncodedLength.Statement (.sharBRd rd) :=
  EncodedLength.of_words _ 1 rfl rfl rfl (by decide)
theorem EncodedLength.sharWRd (rd : R16) : EncodedLength.Statement (.sharWRd rd) :=
  EncodedLength.of_words _ 1 rfl rfl rfl (by decide)
theorem EncodedLength.sharLERd (erd : ERn) : EncodedLength.Statement (.sharLERd erd) :=
  EncodedLength.of_words _ 1 rfl rfl rfl (by decide)
theorem EncodedLength.shllBRd (rd : R8) : EncodedLength.Statement (.shllBRd rd) :=
  EncodedLength.of_words _ 1 rfl rfl rfl (by decide)
theorem EncodedLength.shllWRd (rd : R16) : EncodedLength.Statement (.shllWRd rd) :=
  EncodedLength.of_words _ 1 rfl rfl rfl (by decide)
theorem EncodedLength.shllLERd (erd : ERn) : EncodedLength.Statement (.shllLERd erd) :=
  EncodedLength.of_words _ 1 rfl rfl rfl (by decide)
theorem EncodedLength.shlrBRd (rd : R8) : EncodedLength.Statement (.shlrBRd rd) :=
  EncodedLength.of_words _ 1 rfl rfl rfl (by decide)
theorem EncodedLength.shlrWRd (rd : R16) : EncodedLength.Statement (.shlrWRd rd) :=
  EncodedLength.of_words _ 1 rfl rfl rfl (by decide)
theorem EncodedLength.shlrLERd (erd : ERn) : EncodedLength.Statement (.shlrLERd erd) :=
  EncodedLength.of_words _ 1 rfl rfl rfl (by decide)
theorem EncodedLength.rotlBRd (rd : R8) : EncodedLength.Statement (.rotlBRd rd) :=
  EncodedLength.of_words _ 1 rfl rfl rfl (by decide)
theorem EncodedLength.rotlWRd (rd : R16) : EncodedLength.Statement (.rotlWRd rd) :=
  EncodedLength.of_words _ 1 rfl rfl rfl (by decide)
theorem EncodedLength.rotlLERd (erd : ERn) : EncodedLength.Statement (.rotlLERd erd) :=
  EncodedLength.of_words _ 1 rfl rfl rfl (by decide)
theorem EncodedLength.rotrBRd (rd : R8) : EncodedLength.Statement (.rotrBRd rd) :=
  EncodedLength.of_words _ 1 rfl rfl rfl (by decide)
theorem EncodedLength.rotrWRd (rd : R16) : EncodedLength.Statement (.rotrWRd rd) :=
  EncodedLength.of_words _ 1 rfl rfl rfl (by decide)
theorem EncodedLength.rotrLERd (erd : ERn) : EncodedLength.Statement (.rotrLERd erd) :=
  EncodedLength.of_words _ 1 rfl rfl rfl (by decide)
theorem EncodedLength.rotxlBRd (rd : R8) : EncodedLength.Statement (.rotxlBRd rd) :=
  EncodedLength.of_words _ 1 rfl rfl rfl (by decide)
theorem EncodedLength.rotxlWRd (rd : R16) : EncodedLength.Statement (.rotxlWRd rd) :=
  EncodedLength.of_words _ 1 rfl rfl rfl (by decide)
theorem EncodedLength.rotxlLERd (erd : ERn) : EncodedLength.Statement (.rotxlLERd erd) :=
  EncodedLength.of_words _ 1 rfl rfl rfl (by decide)
theorem EncodedLength.rotxrBRd (rd : R8) : EncodedLength.Statement (.rotxrBRd rd) :=
  EncodedLength.of_words _ 1 rfl rfl rfl (by decide)
theorem EncodedLength.rotxrWRd (rd : R16) : EncodedLength.Statement (.rotxrWRd rd) :=
  EncodedLength.of_words _ 1 rfl rfl rfl (by decide)
theorem EncodedLength.rotxrLERd (erd : ERn) : EncodedLength.Statement (.rotxrLERd erd) :=
  EncodedLength.of_words _ 1 rfl rfl rfl (by decide)
theorem EncodedLength.bsetImm3Rd (imm3 : BitVec 3) (rd : R8) : EncodedLength.Statement (.bsetImm3Rd imm3 rd) :=
  EncodedLength.of_words _ 1 rfl rfl rfl (by decide)
theorem EncodedLength.bsetImm3AtERd (imm3 : BitVec 3) (erd : ERn) : EncodedLength.Statement (.bsetImm3AtERd imm3 erd) :=
  EncodedLength.of_words _ 2 rfl rfl rfl (by decide)
theorem EncodedLength.bsetImm3Abs8 (imm3 : BitVec 3) (abs8 : Byte) : EncodedLength.Statement (.bsetImm3Abs8 imm3 abs8) :=
  EncodedLength.of_words _ 2 rfl rfl rfl (by decide)
theorem EncodedLength.bsetRnRd (rn : R8) (rd : R8) : EncodedLength.Statement (.bsetRnRd rn rd) :=
  EncodedLength.of_words _ 1 rfl rfl rfl (by decide)
theorem EncodedLength.bsetRnAtERd (rn : R8) (erd : ERn) : EncodedLength.Statement (.bsetRnAtERd rn erd) :=
  EncodedLength.of_words _ 2 rfl rfl rfl (by decide)
theorem EncodedLength.bsetRnAbs8 (rn : R8) (abs8 : Byte) : EncodedLength.Statement (.bsetRnAbs8 rn abs8) :=
  EncodedLength.of_words _ 2 rfl rfl rfl (by decide)
theorem EncodedLength.bclrImm3Rd (imm3 : BitVec 3) (rd : R8) : EncodedLength.Statement (.bclrImm3Rd imm3 rd) :=
  EncodedLength.of_words _ 1 rfl rfl rfl (by decide)
theorem EncodedLength.bclrImm3AtERd (imm3 : BitVec 3) (erd : ERn) : EncodedLength.Statement (.bclrImm3AtERd imm3 erd) :=
  EncodedLength.of_words _ 2 rfl rfl rfl (by decide)
theorem EncodedLength.bclrImm3Abs8 (imm3 : BitVec 3) (abs8 : Byte) : EncodedLength.Statement (.bclrImm3Abs8 imm3 abs8) :=
  EncodedLength.of_words _ 2 rfl rfl rfl (by decide)
theorem EncodedLength.bclrRnRd (rn : R8) (rd : R8) : EncodedLength.Statement (.bclrRnRd rn rd) :=
  EncodedLength.of_words _ 1 rfl rfl rfl (by decide)
theorem EncodedLength.bclrRnAtERd (rn : R8) (erd : ERn) : EncodedLength.Statement (.bclrRnAtERd rn erd) :=
  EncodedLength.of_words _ 2 rfl rfl rfl (by decide)
theorem EncodedLength.bclrRnAbs8 (rn : R8) (abs8 : Byte) : EncodedLength.Statement (.bclrRnAbs8 rn abs8) :=
  EncodedLength.of_words _ 2 rfl rfl rfl (by decide)
theorem EncodedLength.bnotImm3Rd (imm3 : BitVec 3) (rd : R8) : EncodedLength.Statement (.bnotImm3Rd imm3 rd) :=
  EncodedLength.of_words _ 1 rfl rfl rfl (by decide)
theorem EncodedLength.bnotImm3AtERd (imm3 : BitVec 3) (erd : ERn) : EncodedLength.Statement (.bnotImm3AtERd imm3 erd) :=
  EncodedLength.of_words _ 2 rfl rfl rfl (by decide)
theorem EncodedLength.bnotImm3Abs8 (imm3 : BitVec 3) (abs8 : Byte) : EncodedLength.Statement (.bnotImm3Abs8 imm3 abs8) :=
  EncodedLength.of_words _ 2 rfl rfl rfl (by decide)
theorem EncodedLength.bnotRnRd (rn : R8) (rd : R8) : EncodedLength.Statement (.bnotRnRd rn rd) :=
  EncodedLength.of_words _ 1 rfl rfl rfl (by decide)
theorem EncodedLength.bnotRnAtERd (rn : R8) (erd : ERn) : EncodedLength.Statement (.bnotRnAtERd rn erd) :=
  EncodedLength.of_words _ 2 rfl rfl rfl (by decide)
theorem EncodedLength.bnotRnAbs8 (rn : R8) (abs8 : Byte) : EncodedLength.Statement (.bnotRnAbs8 rn abs8) :=
  EncodedLength.of_words _ 2 rfl rfl rfl (by decide)
theorem EncodedLength.btstImm3Rd (imm3 : BitVec 3) (rd : R8) : EncodedLength.Statement (.btstImm3Rd imm3 rd) :=
  EncodedLength.of_words _ 1 rfl rfl rfl (by decide)
theorem EncodedLength.btstImm3AtERd (imm3 : BitVec 3) (erd : ERn) : EncodedLength.Statement (.btstImm3AtERd imm3 erd) :=
  EncodedLength.of_words _ 2 rfl rfl rfl (by decide)
theorem EncodedLength.btstImm3Abs8 (imm3 : BitVec 3) (abs8 : Byte) : EncodedLength.Statement (.btstImm3Abs8 imm3 abs8) :=
  EncodedLength.of_words _ 2 rfl rfl rfl (by decide)
theorem EncodedLength.btstRnRd (rn : R8) (rd : R8) : EncodedLength.Statement (.btstRnRd rn rd) :=
  EncodedLength.of_words _ 1 rfl rfl rfl (by decide)
theorem EncodedLength.btstRnAtERd (rn : R8) (erd : ERn) : EncodedLength.Statement (.btstRnAtERd rn erd) :=
  EncodedLength.of_words _ 2 rfl rfl rfl (by decide)
theorem EncodedLength.btstRnAbs8 (rn : R8) (abs8 : Byte) : EncodedLength.Statement (.btstRnAbs8 rn abs8) :=
  EncodedLength.of_words _ 2 rfl rfl rfl (by decide)
theorem EncodedLength.bandImm3Rd (imm3 : BitVec 3) (rd : R8) : EncodedLength.Statement (.bandImm3Rd imm3 rd) :=
  EncodedLength.of_words _ 1 rfl rfl rfl (by decide)
theorem EncodedLength.bandImm3AtERd (imm3 : BitVec 3) (erd : ERn) : EncodedLength.Statement (.bandImm3AtERd imm3 erd) :=
  EncodedLength.of_words _ 2 rfl rfl rfl (by decide)
theorem EncodedLength.bandImm3Abs8 (imm3 : BitVec 3) (abs8 : Byte) : EncodedLength.Statement (.bandImm3Abs8 imm3 abs8) :=
  EncodedLength.of_words _ 2 rfl rfl rfl (by decide)
theorem EncodedLength.biandImm3Rd (imm3 : BitVec 3) (rd : R8) : EncodedLength.Statement (.biandImm3Rd imm3 rd) :=
  EncodedLength.of_words _ 1 rfl rfl rfl (by decide)
theorem EncodedLength.biandImm3AtERd (imm3 : BitVec 3) (erd : ERn) : EncodedLength.Statement (.biandImm3AtERd imm3 erd) :=
  EncodedLength.of_words _ 2 rfl rfl rfl (by decide)
theorem EncodedLength.biandImm3Abs8 (imm3 : BitVec 3) (abs8 : Byte) : EncodedLength.Statement (.biandImm3Abs8 imm3 abs8) :=
  EncodedLength.of_words _ 2 rfl rfl rfl (by decide)
theorem EncodedLength.borImm3Rd (imm3 : BitVec 3) (rd : R8) : EncodedLength.Statement (.borImm3Rd imm3 rd) :=
  EncodedLength.of_words _ 1 rfl rfl rfl (by decide)
theorem EncodedLength.borImm3AtERd (imm3 : BitVec 3) (erd : ERn) : EncodedLength.Statement (.borImm3AtERd imm3 erd) :=
  EncodedLength.of_words _ 2 rfl rfl rfl (by decide)
theorem EncodedLength.borImm3Abs8 (imm3 : BitVec 3) (abs8 : Byte) : EncodedLength.Statement (.borImm3Abs8 imm3 abs8) :=
  EncodedLength.of_words _ 2 rfl rfl rfl (by decide)
theorem EncodedLength.biorImm3Rd (imm3 : BitVec 3) (rd : R8) : EncodedLength.Statement (.biorImm3Rd imm3 rd) :=
  EncodedLength.of_words _ 1 rfl rfl rfl (by decide)
theorem EncodedLength.biorImm3AtERd (imm3 : BitVec 3) (erd : ERn) : EncodedLength.Statement (.biorImm3AtERd imm3 erd) :=
  EncodedLength.of_words _ 2 rfl rfl rfl (by decide)
theorem EncodedLength.biorImm3Abs8 (imm3 : BitVec 3) (abs8 : Byte) : EncodedLength.Statement (.biorImm3Abs8 imm3 abs8) :=
  EncodedLength.of_words _ 2 rfl rfl rfl (by decide)
theorem EncodedLength.bxorImm3Rd (imm3 : BitVec 3) (rd : R8) : EncodedLength.Statement (.bxorImm3Rd imm3 rd) :=
  EncodedLength.of_words _ 1 rfl rfl rfl (by decide)
theorem EncodedLength.bxorImm3AtERd (imm3 : BitVec 3) (erd : ERn) : EncodedLength.Statement (.bxorImm3AtERd imm3 erd) :=
  EncodedLength.of_words _ 2 rfl rfl rfl (by decide)
theorem EncodedLength.bxorImm3Abs8 (imm3 : BitVec 3) (abs8 : Byte) : EncodedLength.Statement (.bxorImm3Abs8 imm3 abs8) :=
  EncodedLength.of_words _ 2 rfl rfl rfl (by decide)
theorem EncodedLength.bixorImm3Rd (imm3 : BitVec 3) (rd : R8) : EncodedLength.Statement (.bixorImm3Rd imm3 rd) :=
  EncodedLength.of_words _ 1 rfl rfl rfl (by decide)
theorem EncodedLength.bixorImm3AtERd (imm3 : BitVec 3) (erd : ERn) : EncodedLength.Statement (.bixorImm3AtERd imm3 erd) :=
  EncodedLength.of_words _ 2 rfl rfl rfl (by decide)
theorem EncodedLength.bixorImm3Abs8 (imm3 : BitVec 3) (abs8 : Byte) : EncodedLength.Statement (.bixorImm3Abs8 imm3 abs8) :=
  EncodedLength.of_words _ 2 rfl rfl rfl (by decide)
theorem EncodedLength.bldImm3Rd (imm3 : BitVec 3) (rd : R8) : EncodedLength.Statement (.bldImm3Rd imm3 rd) :=
  EncodedLength.of_words _ 1 rfl rfl rfl (by decide)
theorem EncodedLength.bldImm3AtERd (imm3 : BitVec 3) (erd : ERn) : EncodedLength.Statement (.bldImm3AtERd imm3 erd) :=
  EncodedLength.of_words _ 2 rfl rfl rfl (by decide)
theorem EncodedLength.bldImm3Abs8 (imm3 : BitVec 3) (abs8 : Byte) : EncodedLength.Statement (.bldImm3Abs8 imm3 abs8) :=
  EncodedLength.of_words _ 2 rfl rfl rfl (by decide)
theorem EncodedLength.bildImm3Rd (imm3 : BitVec 3) (rd : R8) : EncodedLength.Statement (.bildImm3Rd imm3 rd) :=
  EncodedLength.of_words _ 1 rfl rfl rfl (by decide)
theorem EncodedLength.bildImm3AtERd (imm3 : BitVec 3) (erd : ERn) : EncodedLength.Statement (.bildImm3AtERd imm3 erd) :=
  EncodedLength.of_words _ 2 rfl rfl rfl (by decide)
theorem EncodedLength.bildImm3Abs8 (imm3 : BitVec 3) (abs8 : Byte) : EncodedLength.Statement (.bildImm3Abs8 imm3 abs8) :=
  EncodedLength.of_words _ 2 rfl rfl rfl (by decide)
theorem EncodedLength.bstImm3Rd (imm3 : BitVec 3) (rd : R8) : EncodedLength.Statement (.bstImm3Rd imm3 rd) :=
  EncodedLength.of_words _ 1 rfl rfl rfl (by decide)
theorem EncodedLength.bstImm3AtERd (imm3 : BitVec 3) (erd : ERn) : EncodedLength.Statement (.bstImm3AtERd imm3 erd) :=
  EncodedLength.of_words _ 2 rfl rfl rfl (by decide)
theorem EncodedLength.bstImm3Abs8 (imm3 : BitVec 3) (abs8 : Byte) : EncodedLength.Statement (.bstImm3Abs8 imm3 abs8) :=
  EncodedLength.of_words _ 2 rfl rfl rfl (by decide)
theorem EncodedLength.bistImm3Rd (imm3 : BitVec 3) (rd : R8) : EncodedLength.Statement (.bistImm3Rd imm3 rd) :=
  EncodedLength.of_words _ 1 rfl rfl rfl (by decide)
theorem EncodedLength.bistImm3AtERd (imm3 : BitVec 3) (erd : ERn) : EncodedLength.Statement (.bistImm3AtERd imm3 erd) :=
  EncodedLength.of_words _ 2 rfl rfl rfl (by decide)
theorem EncodedLength.bistImm3Abs8 (imm3 : BitVec 3) (abs8 : Byte) : EncodedLength.Statement (.bistImm3Abs8 imm3 abs8) :=
  EncodedLength.of_words _ 2 rfl rfl rfl (by decide)
theorem EncodedLength.braD8 (disp8 : Byte) : EncodedLength.Statement (.braD8 disp8) :=
  EncodedLength.of_words _ 1 rfl rfl rfl (by decide)
theorem EncodedLength.brnD8 (disp8 : Byte) : EncodedLength.Statement (.brnD8 disp8) :=
  EncodedLength.of_words _ 1 rfl rfl rfl (by decide)
theorem EncodedLength.bhiD8 (disp8 : Byte) : EncodedLength.Statement (.bhiD8 disp8) :=
  EncodedLength.of_words _ 1 rfl rfl rfl (by decide)
theorem EncodedLength.blsD8 (disp8 : Byte) : EncodedLength.Statement (.blsD8 disp8) :=
  EncodedLength.of_words _ 1 rfl rfl rfl (by decide)
theorem EncodedLength.bccD8 (disp8 : Byte) : EncodedLength.Statement (.bccD8 disp8) :=
  EncodedLength.of_words _ 1 rfl rfl rfl (by decide)
theorem EncodedLength.bcsD8 (disp8 : Byte) : EncodedLength.Statement (.bcsD8 disp8) :=
  EncodedLength.of_words _ 1 rfl rfl rfl (by decide)
theorem EncodedLength.bneD8 (disp8 : Byte) : EncodedLength.Statement (.bneD8 disp8) :=
  EncodedLength.of_words _ 1 rfl rfl rfl (by decide)
theorem EncodedLength.beqD8 (disp8 : Byte) : EncodedLength.Statement (.beqD8 disp8) :=
  EncodedLength.of_words _ 1 rfl rfl rfl (by decide)
theorem EncodedLength.bvcD8 (disp8 : Byte) : EncodedLength.Statement (.bvcD8 disp8) :=
  EncodedLength.of_words _ 1 rfl rfl rfl (by decide)
theorem EncodedLength.bvsD8 (disp8 : Byte) : EncodedLength.Statement (.bvsD8 disp8) :=
  EncodedLength.of_words _ 1 rfl rfl rfl (by decide)
theorem EncodedLength.bplD8 (disp8 : Byte) : EncodedLength.Statement (.bplD8 disp8) :=
  EncodedLength.of_words _ 1 rfl rfl rfl (by decide)
theorem EncodedLength.bmiD8 (disp8 : Byte) : EncodedLength.Statement (.bmiD8 disp8) :=
  EncodedLength.of_words _ 1 rfl rfl rfl (by decide)
theorem EncodedLength.bgeD8 (disp8 : Byte) : EncodedLength.Statement (.bgeD8 disp8) :=
  EncodedLength.of_words _ 1 rfl rfl rfl (by decide)
theorem EncodedLength.bltD8 (disp8 : Byte) : EncodedLength.Statement (.bltD8 disp8) :=
  EncodedLength.of_words _ 1 rfl rfl rfl (by decide)
theorem EncodedLength.bgtD8 (disp8 : Byte) : EncodedLength.Statement (.bgtD8 disp8) :=
  EncodedLength.of_words _ 1 rfl rfl rfl (by decide)
theorem EncodedLength.bleD8 (disp8 : Byte) : EncodedLength.Statement (.bleD8 disp8) :=
  EncodedLength.of_words _ 1 rfl rfl rfl (by decide)
theorem EncodedLength.braD16 (disp16 : Word) : EncodedLength.Statement (.braD16 disp16) :=
  EncodedLength.of_words _ 2 rfl rfl rfl (by decide)
theorem EncodedLength.brnD16 (disp16 : Word) : EncodedLength.Statement (.brnD16 disp16) :=
  EncodedLength.of_words _ 2 rfl rfl rfl (by decide)
theorem EncodedLength.bhiD16 (disp16 : Word) : EncodedLength.Statement (.bhiD16 disp16) :=
  EncodedLength.of_words _ 2 rfl rfl rfl (by decide)
theorem EncodedLength.blsD16 (disp16 : Word) : EncodedLength.Statement (.blsD16 disp16) :=
  EncodedLength.of_words _ 2 rfl rfl rfl (by decide)
theorem EncodedLength.bccD16 (disp16 : Word) : EncodedLength.Statement (.bccD16 disp16) :=
  EncodedLength.of_words _ 2 rfl rfl rfl (by decide)
theorem EncodedLength.bcsD16 (disp16 : Word) : EncodedLength.Statement (.bcsD16 disp16) :=
  EncodedLength.of_words _ 2 rfl rfl rfl (by decide)
theorem EncodedLength.bneD16 (disp16 : Word) : EncodedLength.Statement (.bneD16 disp16) :=
  EncodedLength.of_words _ 2 rfl rfl rfl (by decide)
theorem EncodedLength.beqD16 (disp16 : Word) : EncodedLength.Statement (.beqD16 disp16) :=
  EncodedLength.of_words _ 2 rfl rfl rfl (by decide)
theorem EncodedLength.bvcD16 (disp16 : Word) : EncodedLength.Statement (.bvcD16 disp16) :=
  EncodedLength.of_words _ 2 rfl rfl rfl (by decide)
theorem EncodedLength.bvsD16 (disp16 : Word) : EncodedLength.Statement (.bvsD16 disp16) :=
  EncodedLength.of_words _ 2 rfl rfl rfl (by decide)
theorem EncodedLength.bplD16 (disp16 : Word) : EncodedLength.Statement (.bplD16 disp16) :=
  EncodedLength.of_words _ 2 rfl rfl rfl (by decide)
theorem EncodedLength.bmiD16 (disp16 : Word) : EncodedLength.Statement (.bmiD16 disp16) :=
  EncodedLength.of_words _ 2 rfl rfl rfl (by decide)
theorem EncodedLength.bgeD16 (disp16 : Word) : EncodedLength.Statement (.bgeD16 disp16) :=
  EncodedLength.of_words _ 2 rfl rfl rfl (by decide)
theorem EncodedLength.bltD16 (disp16 : Word) : EncodedLength.Statement (.bltD16 disp16) :=
  EncodedLength.of_words _ 2 rfl rfl rfl (by decide)
theorem EncodedLength.bgtD16 (disp16 : Word) : EncodedLength.Statement (.bgtD16 disp16) :=
  EncodedLength.of_words _ 2 rfl rfl rfl (by decide)
theorem EncodedLength.bleD16 (disp16 : Word) : EncodedLength.Statement (.bleD16 disp16) :=
  EncodedLength.of_words _ 2 rfl rfl rfl (by decide)
theorem EncodedLength.jmpAtERn (ern : ERn) : EncodedLength.Statement (.jmpAtERn ern) :=
  EncodedLength.of_words _ 1 rfl rfl rfl (by decide)
theorem EncodedLength.jmpAbs24 (abs24 : Addr) : EncodedLength.Statement (.jmpAbs24 abs24) :=
  EncodedLength.of_words _ 2 rfl rfl rfl (by decide)
theorem EncodedLength.jmpInd8 (abs8 : Byte) : EncodedLength.Statement (.jmpInd8 abs8) :=
  EncodedLength.of_words _ 1 rfl rfl rfl (by decide)
theorem EncodedLength.bsrD8 (disp8 : Byte) : EncodedLength.Statement (.bsrD8 disp8) :=
  EncodedLength.of_words _ 1 rfl rfl rfl (by decide)
theorem EncodedLength.bsrD16 (disp16 : Word) : EncodedLength.Statement (.bsrD16 disp16) :=
  EncodedLength.of_words _ 2 rfl rfl rfl (by decide)
theorem EncodedLength.jsrAtERn (ern : ERn) : EncodedLength.Statement (.jsrAtERn ern) :=
  EncodedLength.of_words _ 1 rfl rfl rfl (by decide)
theorem EncodedLength.jsrAbs24 (abs24 : Addr) : EncodedLength.Statement (.jsrAbs24 abs24) :=
  EncodedLength.of_words _ 2 rfl rfl rfl (by decide)
theorem EncodedLength.jsrInd8 (abs8 : Byte) : EncodedLength.Statement (.jsrInd8 abs8) :=
  EncodedLength.of_words _ 1 rfl rfl rfl (by decide)
theorem EncodedLength.rts : EncodedLength.Statement .rts := EncodedLength.of_words _ 1 rfl rfl rfl (by decide)
theorem EncodedLength.ldcImm8Ccr (imm8 : Byte) : EncodedLength.Statement (.ldcImm8Ccr imm8) :=
  EncodedLength.of_words _ 1 rfl rfl rfl (by decide)
theorem EncodedLength.ldcRsCcr (rs : R8) : EncodedLength.Statement (.ldcRsCcr rs) :=
  EncodedLength.of_words _ 1 rfl rfl rfl (by decide)
theorem EncodedLength.ldcAtERsCcr (ers : ERn) : EncodedLength.Statement (.ldcAtERsCcr ers) :=
  EncodedLength.of_words _ 2 rfl rfl rfl (by decide)
theorem EncodedLength.ldcD16ERsCcr (disp16 : Word) (ers : ERn) : EncodedLength.Statement (.ldcD16ERsCcr disp16 ers) :=
  EncodedLength.of_words _ 3 rfl rfl rfl (by decide)
theorem EncodedLength.ldcD24ERsCcr (disp24 : Addr) (ers : ERn) : EncodedLength.Statement (.ldcD24ERsCcr disp24 ers) :=
  EncodedLength.of_words _ 5 rfl rfl rfl (by decide)
theorem EncodedLength.ldcPostERsCcr (ers : ERn) : EncodedLength.Statement (.ldcPostERsCcr ers) :=
  EncodedLength.of_words _ 2 rfl rfl rfl (by decide)
theorem EncodedLength.ldcAbs16Ccr (abs16 : Word) : EncodedLength.Statement (.ldcAbs16Ccr abs16) :=
  EncodedLength.of_words _ 3 rfl rfl rfl (by decide)
theorem EncodedLength.ldcAbs24Ccr (abs24 : Addr) : EncodedLength.Statement (.ldcAbs24Ccr abs24) :=
  EncodedLength.of_words _ 4 rfl rfl rfl (by decide)
theorem EncodedLength.stcCcrRd (rd : R8) : EncodedLength.Statement (.stcCcrRd rd) :=
  EncodedLength.of_words _ 1 rfl rfl rfl (by decide)
theorem EncodedLength.stcCcrAtERd (erd : ERn) : EncodedLength.Statement (.stcCcrAtERd erd) :=
  EncodedLength.of_words _ 2 rfl rfl rfl (by decide)
theorem EncodedLength.stcCcrD16ERd (disp16 : Word) (erd : ERn) : EncodedLength.Statement (.stcCcrD16ERd disp16 erd) :=
  EncodedLength.of_words _ 3 rfl rfl rfl (by decide)
theorem EncodedLength.stcCcrD24ERd (disp24 : Addr) (erd : ERn) : EncodedLength.Statement (.stcCcrD24ERd disp24 erd) :=
  EncodedLength.of_words _ 5 rfl rfl rfl (by decide)
theorem EncodedLength.stcCcrPreERd (erd : ERn) : EncodedLength.Statement (.stcCcrPreERd erd) :=
  EncodedLength.of_words _ 2 rfl rfl rfl (by decide)
theorem EncodedLength.stcCcrAbs16 (abs16 : Word) : EncodedLength.Statement (.stcCcrAbs16 abs16) :=
  EncodedLength.of_words _ 3 rfl rfl rfl (by decide)
theorem EncodedLength.stcCcrAbs24 (abs24 : Addr) : EncodedLength.Statement (.stcCcrAbs24 abs24) :=
  EncodedLength.of_words _ 4 rfl rfl rfl (by decide)
theorem EncodedLength.andcImm8Ccr (imm8 : Byte) : EncodedLength.Statement (.andcImm8Ccr imm8) :=
  EncodedLength.of_words _ 1 rfl rfl rfl (by decide)
theorem EncodedLength.orcImm8Ccr (imm8 : Byte) : EncodedLength.Statement (.orcImm8Ccr imm8) :=
  EncodedLength.of_words _ 1 rfl rfl rfl (by decide)
theorem EncodedLength.xorcImm8Ccr (imm8 : Byte) : EncodedLength.Statement (.xorcImm8Ccr imm8) :=
  EncodedLength.of_words _ 1 rfl rfl rfl (by decide)
theorem EncodedLength.nop : EncodedLength.Statement .nop := EncodedLength.of_words _ 1 rfl rfl rfl (by decide)
theorem EncodedLength.rte : EncodedLength.Statement .rte := EncodedLength.of_words _ 1 rfl rfl rfl (by decide)
theorem EncodedLength.trapaImm2 (imm2 : BitVec 2) : EncodedLength.Statement (.trapaImm2 imm2) :=
  EncodedLength.of_words _ 1 rfl rfl rfl (by decide)
theorem EncodedLength.sleep : EncodedLength.Statement .sleep := EncodedLength.of_words _ 1 rfl rfl rfl (by decide)
theorem EncodedLength.eepmovB : EncodedLength.Statement .eepmovB := EncodedLength.of_words _ 2 rfl rfl rfl (by decide)
theorem EncodedLength.eepmovW : EncodedLength.Statement .eepmovW := EncodedLength.of_words _ 2 rfl rfl rfl (by decide)

end Sys2Proof.Laws
end

