-- ==== Sys2Proof/Tests/Slice0.lean ====
section
/-! SUPPORT. Tests: ill-formed terms refused, words written out from the patterns of 30_encoding R127 decoded, single
steps against the worked vectors of spec/95 to 97 (theorem names carry the vector's number), and for every statement
with hypotheses a state and operands that meet them. -/

namespace Sys2Proof.Tests

open Sys2Proof.Machine

/-! ### Terms that WellFormed refuses (R128) -/

theorem test_wellFormed_refuses_movW_post_er7 : (Instr.movWPostERsRd .er7 ⟨.er0, .r⟩).wellFormed = false := by decide

theorem test_wellFormed_refuses_movL_post_er7 : (Instr.movLPostERsERd .er7 .er0).wellFormed = false := by decide

theorem test_wellFormed_refuses_movW_pre_er7 : (Instr.movWRsPreERd ⟨.er0, .r⟩ .er7).wellFormed = false := by decide

theorem test_wellFormed_refuses_movL_pre_er7 : (Instr.movLERsPreERd .er0 .er7).wellFormed = false := by decide

/-! ### Decoding: every constructor from a word written out from its row of R127 -/

/-- Every list of words decodes to its instruction. -/
noncomputable def readsAs (rows : List (List Word × Instr)) : Bool := rows.all fun c => decide (decode c.1 = some c.2)

theorem test_decode_data_transfer_1 :
    readsAs [
      ([0x0C7D], .movBRsRd ⟨.er7, .h⟩ ⟨.er5, .l⟩),
      ([0x0D8D], .movWRsRd ⟨.er0, .e⟩ ⟨.er5, .e⟩),
      ([0x0F86], .movLERsERd .er0 .er6),
      ([0xF782], .movBImm8Rd 0x82 ⟨.er7, .h⟩),
      ([0x6869], .movBAtERsRd .er6 ⟨.er1, .l⟩),
      ([0x6E12, 0xCDCC], .movBD16ERsRd 0xCDCC .er1 ⟨.er2, .h⟩),
      ([0x7840, 0x6A27, 0x00A1, 0x3FFE], .movBD24ERsRd 0xA13FFE .er4 ⟨.er7, .h⟩),
      ([0x6C4C], .movBPostERsRd .er4 ⟨.er4, .l⟩),
      ([0x2289], .movBAbs8Rd 0x89 ⟨.er2, .h⟩),
      ([0x6A0C, 0xE3EF], .movBAbs16Rd 0xE3EF ⟨.er4, .l⟩),
      ([0x6A2B, 0x00A2, 0x6B7F], .movBAbs24Rd 0xA26B7F ⟨.er3, .l⟩),
      ([0x7900, 0x986E], .movWImm16Rd 0x986E ⟨.er0, .r⟩),
      ([0x6906], .movWAtERsRd .er0 ⟨.er6, .r⟩),
      ([0x6F07, 0xA767], .movWD16ERsRd 0xA767 .er0 ⟨.er7, .r⟩),
      ([0x7850, 0x6B29, 0x00A6, 0x6B0D], .movWD24ERsRd 0xA66B0D .er5 ⟨.er1, .e⟩),
      ([0x6D19], .movWPostERsRd .er1 ⟨.er1, .e⟩),
      ([0x6B00, 0xD4EA], .movWAbs16Rd 0xD4EA ⟨.er0, .r⟩),
      ([0x6B28, 0x00E1, 0x2B2B], .movWAbs24Rd 0xE12B2B ⟨.er0, .e⟩)] = true := by decide

theorem test_decode_data_transfer_2 :
    readsAs [
      ([0x7A01, 0x9980, 0x9225], .movLImm32ERd 0x99809225 .er1),
      ([0x0100, 0x6906], .movLAtERsERd .er0 .er6),
      ([0x0100, 0x6F32, 0x9749], .movLD16ERsERd 0x9749 .er3 .er2),
      ([0x0100, 0x7860, 0x6B21, 0x0084, 0xE551], .movLD24ERsERd 0x84E551 .er6 .er1),
      ([0x0100, 0x6D15], .movLPostERsERd .er1 .er5),
      ([0x0100, 0x6B02, 0xA996], .movLAbs16ERd 0xA996 .er2),
      ([0x0100, 0x6B20, 0x00A7, 0xA114], .movLAbs24ERd 0xA7A114 .er0),
      ([0x68A6], .movBRsAtERd ⟨.er6, .h⟩ .er2),
      ([0x6E88, 0xFEE5], .movBRsD16ERd ⟨.er0, .l⟩ 0xFEE5 .er0),
      ([0x7800, 0x6AAD, 0x00B5, 0x3302], .movBRsD24ERd ⟨.er5, .l⟩ 0xB53302 .er0),
      ([0x6CA5], .movBRsPreERd ⟨.er5, .h⟩ .er2),
      ([0x3C83], .movBRsAbs8 ⟨.er4, .l⟩ 0x83),
      ([0x6A84, 0x902A], .movBRsAbs16 ⟨.er4, .h⟩ 0x902A),
      ([0x6AAC, 0x00D8, 0xB9B4], .movBRsAbs24 ⟨.er4, .l⟩ 0xD8B9B4),
      ([0x69A6], .movWRsAtERd ⟨.er6, .r⟩ .er2),
      ([0x6F8F, 0xD8E9], .movWRsD16ERd ⟨.er7, .e⟩ 0xD8E9 .er0),
      ([0x7850, 0x6BA0, 0x00ED, 0x52A2], .movWRsD24ERd ⟨.er0, .r⟩ 0xED52A2 .er5),
      ([0x6D87], .movWRsPreERd ⟨.er7, .r⟩ .er0)] = true := by decide

theorem test_decode_data_transfer_3 :
    readsAs [
      ([0x6B86, 0xFAF8], .movWRsAbs16 ⟨.er6, .r⟩ 0xFAF8),
      ([0x6BAB, 0x0090, 0xF538], .movWRsAbs24 ⟨.er3, .e⟩ 0x90F538),
      ([0x0100, 0x69D1], .movLERsAtERd .er1 .er5),
      ([0x0100, 0x6FE5, 0xF6CD], .movLERsD16ERd .er5 0xF6CD .er6),
      ([0x0100, 0x78B0, 0x6BA6, 0x00EC, 0x3FBF], .movLERsD24ERd .er6 0xEC3FBF .er3),
      ([0x0100, 0x6D81], .movLERsPreERd .er1 .er0),
      ([0x0100, 0x6B81, 0xB4FF], .movLERsAbs16 .er1 0xB4FF),
      ([0x0100, 0x6BA0, 0x00CC, 0x099A], .movLERsAbs24 .er0 0xCC099A),
      ([0x6A47, 0xAE9C], .movfpeAbs16Rd 0xAE9C ⟨.er7, .h⟩),
      ([0x6AC8, 0x8245], .movtpeRsAbs16 ⟨.er0, .l⟩ 0x8245),
      ([0x6D73], .popWRn ⟨.er3, .r⟩),
      ([0x0100, 0x6D77], .popLERn .er7),
      ([0x6DFB], .pushWRn ⟨.er3, .e⟩),
      ([0x0100, 0x6DF6], .pushLERn .er6)] = true := by decide

theorem test_decode_arithmetic_1 :
    readsAs [
      ([0x82A4], .addBImm8Rd 0xA4 ⟨.er2, .h⟩),
      ([0x0861], .addBRsRd ⟨.er6, .h⟩ ⟨.er1, .h⟩),
      ([0x7916, 0xFD74], .addWImm16Rd 0xFD74 ⟨.er6, .r⟩),
      ([0x0930], .addWRsRd ⟨.er3, .r⟩ ⟨.er0, .r⟩),
      ([0x7A12, 0xDD44, 0xFD36], .addLImm32ERd 0xDD44FD36 .er2),
      ([0x0A86], .addLERsERd .er0 .er6),
      ([0x0B04], .addsOneERd .er4),
      ([0x0B82], .addsTwoERd .er2),
      ([0x0B90], .addsFourERd .er0),
      ([0x9EFE], .addxImm8Rd 0xFE ⟨.er6, .l⟩),
      ([0x0ED9], .addxRsRd ⟨.er5, .l⟩ ⟨.er1, .l⟩),
      ([0xAA93], .cmpBImm8Rd 0x93 ⟨.er2, .l⟩),
      ([0x1C10], .cmpBRsRd ⟨.er1, .h⟩ ⟨.er0, .h⟩),
      ([0x792F, 0xC5CE], .cmpWImm16Rd 0xC5CE ⟨.er7, .e⟩),
      ([0x1D95], .cmpWRsRd ⟨.er1, .e⟩ ⟨.er5, .r⟩),
      ([0x7A26, 0x952E, 0x1B8B], .cmpLImm32ERd 0x952E1B8B .er6),
      ([0x1FD1], .cmpLERsERd .er5 .er1),
      ([0x1809], .subBRsRd ⟨.er0, .h⟩ ⟨.er1, .l⟩)] = true := by decide

theorem test_decode_arithmetic_2 :
    readsAs [
      ([0x7935, 0x9F45], .subWImm16Rd 0x9F45 ⟨.er5, .r⟩),
      ([0x1972], .subWRsRd ⟨.er7, .r⟩ ⟨.er2, .r⟩),
      ([0x7A30, 0x9657, 0x68E0], .subLImm32ERd 0x965768E0 .er0),
      ([0x1AB6], .subLERsERd .er3 .er6),
      ([0x1B04], .subsOneERd .er4),
      ([0x1B81], .subsTwoERd .er1),
      ([0x1B96], .subsFourERd .er6),
      ([0xB6A0], .subxImm8Rd 0xA0 ⟨.er6, .h⟩),
      ([0x1E24], .subxRsRd ⟨.er2, .h⟩ ⟨.er4, .h⟩),
      ([0x0F0E], .daaRd ⟨.er6, .l⟩),
      ([0x1F03], .dasRd ⟨.er3, .h⟩),
      ([0x0A0D], .incBRd ⟨.er5, .l⟩),
      ([0x0B59], .incWOneRd ⟨.er1, .e⟩),
      ([0x0BD3], .incWTwoRd ⟨.er3, .r⟩),
      ([0x0B75], .incLOneERd .er5),
      ([0x0BF1], .incLTwoERd .er1),
      ([0x1A02], .decBRd ⟨.er2, .h⟩),
      ([0x1B5B], .decWOneRd ⟨.er3, .e⟩)] = true := by decide

theorem test_decode_arithmetic_3 :
    readsAs [
      ([0x1BDA], .decWTwoRd ⟨.er2, .e⟩),
      ([0x1B70], .decLOneERd .er0),
      ([0x1BF4], .decLTwoERd .er4),
      ([0x1783], .negBRd ⟨.er3, .h⟩),
      ([0x179A], .negWRd ⟨.er2, .e⟩),
      ([0x17B0], .negLERd .er0),
      ([0x1756], .extuWRd ⟨.er6, .r⟩),
      ([0x1770], .extuLERd .er0),
      ([0x17D7], .extsWRd ⟨.er7, .r⟩),
      ([0x17F4], .extsLERd .er4),
      ([0x5016], .mulxuBRsRd ⟨.er1, .h⟩ ⟨.er6, .r⟩),
      ([0x5204], .mulxuWRsERd ⟨.er0, .r⟩ .er4),
      ([0x01C0, 0x50F4], .mulxsBRsRd ⟨.er7, .l⟩ ⟨.er4, .r⟩),
      ([0x01C0, 0x5235], .mulxsWRsERd ⟨.er3, .r⟩ .er5),
      ([0x51B6], .divxuBRsRd ⟨.er3, .l⟩ ⟨.er6, .r⟩),
      ([0x5343], .divxuWRsERd ⟨.er4, .r⟩ .er3),
      ([0x01D0, 0x51DE], .divxsBRsRd ⟨.er5, .l⟩ ⟨.er6, .e⟩),
      ([0x01D0, 0x5393], .divxsWRsERd ⟨.er1, .e⟩ .er3)] = true := by decide

theorem test_decode_logic_1 :
    readsAs [
      ([0xE485], .andBImm8Rd 0x85 ⟨.er4, .h⟩),
      ([0x162E], .andBRsRd ⟨.er2, .h⟩ ⟨.er6, .l⟩),
      ([0x796B, 0xFA28], .andWImm16Rd 0xFA28 ⟨.er3, .e⟩),
      ([0x6612], .andWRsRd ⟨.er1, .r⟩ ⟨.er2, .r⟩),
      ([0x7A61, 0x8F32, 0xA1F2], .andLImm32ERd 0x8F32A1F2 .er1),
      ([0x01F0, 0x6656], .andLERsERd .er5 .er6),
      ([0xC99D], .orBImm8Rd 0x9D ⟨.er1, .l⟩),
      ([0x1414], .orBRsRd ⟨.er1, .h⟩ ⟨.er4, .h⟩),
      ([0x7943, 0xEAD8], .orWImm16Rd 0xEAD8 ⟨.er3, .r⟩),
      ([0x64E3], .orWRsRd ⟨.er6, .e⟩ ⟨.er3, .r⟩),
      ([0x7A45, 0x87EF, 0xDA6B], .orLImm32ERd 0x87EFDA6B .er5),
      ([0x01F0, 0x6440], .orLERsERd .er4 .er0),
      ([0xD2E4], .xorBImm8Rd 0xE4 ⟨.er2, .h⟩),
      ([0x157F], .xorBRsRd ⟨.er7, .h⟩ ⟨.er7, .l⟩),
      ([0x7955, 0xA82C], .xorWImm16Rd 0xA82C ⟨.er5, .r⟩),
      ([0x65B8], .xorWRsRd ⟨.er3, .e⟩ ⟨.er0, .e⟩),
      ([0x7A54, 0xF265, 0x0B71], .xorLImm32ERd 0xF2650B71 .er4),
      ([0x01F0, 0x6514], .xorLERsERd .er1 .er4)] = true := by decide

theorem test_decode_logic_2 :
    readsAs [
      ([0x1700], .notBRd ⟨.er0, .h⟩),
      ([0x171E], .notWRd ⟨.er6, .e⟩),
      ([0x1730], .notLERd .er0)] = true := by decide

theorem test_decode_shift_1 :
    readsAs [
      ([0x1087], .shalBRd ⟨.er7, .h⟩),
      ([0x109E], .shalWRd ⟨.er6, .e⟩),
      ([0x10B2], .shalLERd .er2),
      ([0x118B], .sharBRd ⟨.er3, .l⟩),
      ([0x1194], .sharWRd ⟨.er4, .r⟩),
      ([0x11B0], .sharLERd .er0),
      ([0x1000], .shllBRd ⟨.er0, .h⟩),
      ([0x1010], .shllWRd ⟨.er0, .r⟩),
      ([0x1034], .shllLERd .er4),
      ([0x110A], .shlrBRd ⟨.er2, .l⟩),
      ([0x1111], .shlrWRd ⟨.er1, .r⟩),
      ([0x1133], .shlrLERd .er3),
      ([0x1281], .rotlBRd ⟨.er1, .h⟩),
      ([0x129B], .rotlWRd ⟨.er3, .e⟩),
      ([0x12B2], .rotlLERd .er2),
      ([0x1385], .rotrBRd ⟨.er5, .h⟩),
      ([0x1392], .rotrWRd ⟨.er2, .r⟩),
      ([0x13B0], .rotrLERd .er0)] = true := by decide

theorem test_decode_shift_2 :
    readsAs [
      ([0x1201], .rotxlBRd ⟨.er1, .h⟩),
      ([0x1211], .rotxlWRd ⟨.er1, .r⟩),
      ([0x1233], .rotxlLERd .er3),
      ([0x1308], .rotxrBRd ⟨.er0, .l⟩),
      ([0x1315], .rotxrWRd ⟨.er5, .r⟩),
      ([0x1335], .rotxrLERd .er5)] = true := by decide

theorem test_decode_bit_manipulation_1 :
    readsAs [
      ([0x700E], .bsetImm3Rd 0 ⟨.er6, .l⟩),
      ([0x7D00, 0x7050], .bsetImm3AtERd 5 .er0),
      ([0x7FBC, 0x7050], .bsetImm3Abs8 5 0xBC),
      ([0x602C], .bsetRnRd ⟨.er2, .h⟩ ⟨.er4, .l⟩),
      ([0x7D00, 0x60E0], .bsetRnAtERd ⟨.er6, .l⟩ .er0),
      ([0x7FAF, 0x6070], .bsetRnAbs8 ⟨.er7, .h⟩ 0xAF),
      ([0x7271], .bclrImm3Rd 7 ⟨.er1, .h⟩),
      ([0x7D60, 0x7230], .bclrImm3AtERd 3 .er6),
      ([0x7FF1, 0x7260], .bclrImm3Abs8 6 0xF1),
      ([0x620D], .bclrRnRd ⟨.er0, .h⟩ ⟨.er5, .l⟩),
      ([0x7D30, 0x6290], .bclrRnAtERd ⟨.er1, .l⟩ .er3),
      ([0x7F9F, 0x62A0], .bclrRnAbs8 ⟨.er2, .l⟩ 0x9F),
      ([0x7136], .bnotImm3Rd 3 ⟨.er6, .h⟩),
      ([0x7D40, 0x7100], .bnotImm3AtERd 0 .er4),
      ([0x7F9B, 0x7100], .bnotImm3Abs8 0 0x9B),
      ([0x611A], .bnotRnRd ⟨.er1, .h⟩ ⟨.er2, .l⟩),
      ([0x7D00, 0x61F0], .bnotRnAtERd ⟨.er7, .l⟩ .er0),
      ([0x7FE1, 0x6160], .bnotRnAbs8 ⟨.er6, .h⟩ 0xE1)] = true := by decide

theorem test_decode_bit_manipulation_2 :
    readsAs [
      ([0x7356], .btstImm3Rd 5 ⟨.er6, .h⟩),
      ([0x7C00, 0x7350], .btstImm3AtERd 5 .er0),
      ([0x7EB1, 0x7340], .btstImm3Abs8 4 0xB1),
      ([0x637D], .btstRnRd ⟨.er7, .h⟩ ⟨.er5, .l⟩),
      ([0x7C40, 0x6310], .btstRnAtERd ⟨.er1, .h⟩ .er4),
      ([0x7E84, 0x63C0], .btstRnAbs8 ⟨.er4, .l⟩ 0x84),
      ([0x7640], .bandImm3Rd 4 ⟨.er0, .h⟩),
      ([0x7C20, 0x7640], .bandImm3AtERd 4 .er2),
      ([0x7EF5, 0x7650], .bandImm3Abs8 5 0xF5),
      ([0x7687], .biandImm3Rd 0 ⟨.er7, .h⟩),
      ([0x7C60, 0x76C0], .biandImm3AtERd 4 .er6),
      ([0x7EA8, 0x76F0], .biandImm3Abs8 7 0xA8),
      ([0x7434], .borImm3Rd 3 ⟨.er4, .h⟩),
      ([0x7C00, 0x7420], .borImm3AtERd 2 .er0),
      ([0x7EAD, 0x7440], .borImm3Abs8 4 0xAD),
      ([0x7498], .biorImm3Rd 1 ⟨.er0, .l⟩),
      ([0x7C10, 0x74E0], .biorImm3AtERd 6 .er1),
      ([0x7EE7, 0x74A0], .biorImm3Abs8 2 0xE7)] = true := by decide

theorem test_decode_bit_manipulation_3 :
    readsAs [
      ([0x755E], .bxorImm3Rd 5 ⟨.er6, .l⟩),
      ([0x7C30, 0x7570], .bxorImm3AtERd 7 .er3),
      ([0x7EAA, 0x7520], .bxorImm3Abs8 2 0xAA),
      ([0x759A], .bixorImm3Rd 1 ⟨.er2, .l⟩),
      ([0x7C30, 0x75E0], .bixorImm3AtERd 6 .er3),
      ([0x7ECE, 0x75E0], .bixorImm3Abs8 6 0xCE),
      ([0x7773], .bldImm3Rd 7 ⟨.er3, .h⟩),
      ([0x7C00, 0x7710], .bldImm3AtERd 1 .er0),
      ([0x7E95, 0x7770], .bldImm3Abs8 7 0x95),
      ([0x77A3], .bildImm3Rd 2 ⟨.er3, .h⟩),
      ([0x7C10, 0x77B0], .bildImm3AtERd 3 .er1),
      ([0x7ED6, 0x77F0], .bildImm3Abs8 7 0xD6),
      ([0x6760], .bstImm3Rd 6 ⟨.er0, .h⟩),
      ([0x7D50, 0x6700], .bstImm3AtERd 0 .er5),
      ([0x7FF3, 0x6770], .bstImm3Abs8 7 0xF3),
      ([0x67AD], .bistImm3Rd 2 ⟨.er5, .l⟩),
      ([0x7D10, 0x6780], .bistImm3AtERd 0 .er1),
      ([0x7FEC, 0x6790], .bistImm3Abs8 1 0xEC)] = true := by decide

theorem test_decode_conditional_branch_1 :
    readsAs [
      ([0x40D4], .braD8 0xD4),
      ([0x41A0], .brnD8 0xA0),
      ([0x4285], .bhiD8 0x85),
      ([0x43AC], .blsD8 0xAC),
      ([0x44B7], .bccD8 0xB7),
      ([0x45D6], .bcsD8 0xD6),
      ([0x46D7], .bneD8 0xD7),
      ([0x47FB], .beqD8 0xFB),
      ([0x489F], .bvcD8 0x9F),
      ([0x49D4], .bvsD8 0xD4),
      ([0x4ADF], .bplD8 0xDF),
      ([0x4B9B], .bmiD8 0x9B),
      ([0x4CAD], .bgeD8 0xAD),
      ([0x4DB5], .bltD8 0xB5),
      ([0x4E92], .bgtD8 0x92),
      ([0x4FA6], .bleD8 0xA6),
      ([0x5800, 0xCAA0], .braD16 0xCAA0),
      ([0x5810, 0x9064], .brnD16 0x9064)] = true := by decide

theorem test_decode_conditional_branch_2 :
    readsAs [
      ([0x5820, 0xA417], .bhiD16 0xA417),
      ([0x5830, 0xC4EB], .blsD16 0xC4EB),
      ([0x5840, 0xD465], .bccD16 0xD465),
      ([0x5850, 0xC77D], .bcsD16 0xC77D),
      ([0x5860, 0xCBFE], .bneD16 0xCBFE),
      ([0x5870, 0xFBE8], .beqD16 0xFBE8),
      ([0x5880, 0xA111], .bvcD16 0xA111),
      ([0x5890, 0xA145], .bvsD16 0xA145),
      ([0x58A0, 0x890F], .bplD16 0x890F),
      ([0x58B0, 0xA7B0], .bmiD16 0xA7B0),
      ([0x58C0, 0xA3D1], .bgeD16 0xA3D1),
      ([0x58D0, 0xCEB0], .bltD16 0xCEB0),
      ([0x58E0, 0xF55D], .bgtD16 0xF55D),
      ([0x58F0, 0xAF3A], .bleD16 0xAF3A)] = true := by decide

theorem test_decode_jump_1 :
    readsAs [
      ([0x5910], .jmpAtERn .er1),
      ([0x5AD2, 0xE708], .jmpAbs24 0xD2E708),
      ([0x5BB6], .jmpInd8 0xB6),
      ([0x55C1], .bsrD8 0xC1),
      ([0x5C00, 0x88EB], .bsrD16 0x88EB),
      ([0x5D50], .jsrAtERn .er5),
      ([0x5EC7, 0x5145], .jsrAbs24 0xC75145),
      ([0x5F8A], .jsrInd8 0x8A),
      ([0x5470], .rts)] = true := by decide

theorem test_decode_system_control_1 :
    readsAs [
      ([0x07B2], .ldcImm8Ccr 0xB2),
      ([0x030F], .ldcRsCcr ⟨.er7, .l⟩),
      ([0x0140, 0x6940], .ldcAtERsCcr .er4),
      ([0x0140, 0x6F40, 0x9D4C], .ldcD16ERsCcr 0x9D4C .er4),
      ([0x0140, 0x7800, 0x6B20, 0x00C1, 0x96C5], .ldcD24ERsCcr 0xC196C5 .er0),
      ([0x0140, 0x6D10], .ldcPostERsCcr .er1),
      ([0x0140, 0x6B00, 0xD948], .ldcAbs16Ccr 0xD948),
      ([0x0140, 0x6B20, 0x00CA, 0xBC12], .ldcAbs24Ccr 0xCABC12),
      ([0x020B], .stcCcrRd ⟨.er3, .l⟩),
      ([0x0140, 0x6980], .stcCcrAtERd .er0),
      ([0x0140, 0x6F90, 0xEEBF], .stcCcrD16ERd 0xEEBF .er1),
      ([0x0140, 0x7800, 0x6BA0, 0x00B8, 0xEDB5], .stcCcrD24ERd 0xB8EDB5 .er0),
      ([0x0140, 0x6DB0], .stcCcrPreERd .er3),
      ([0x0140, 0x6B80, 0xA023], .stcCcrAbs16 0xA023),
      ([0x0140, 0x6BA0, 0x00E3, 0x27C9], .stcCcrAbs24 0xE327C9),
      ([0x06E8], .andcImm8Ccr 0xE8),
      ([0x048C], .orcImm8Ccr 0x8C),
      ([0x0591], .xorcImm8Ccr 0x91)] = true := by decide

theorem test_decode_system_control_2 :
    readsAs [
      ([0x0000], .nop),
      ([0x5670], .rte),
      ([0x5720], .trapaImm2 2),
      ([0x0180], .sleep)] = true := by decide

theorem test_decode_block_transfer_1 :
    readsAs [
      ([0x7B5C, 0x598F], .eepmovB),
      ([0x7BD4, 0x598F], .eepmovW)] = true := by decide

/-! ### Codes of no row (R131) -/

/-- No list of words decodes. -/
noncomputable def refused (codes : List (List Word)) : Bool := codes.all fun ws => decide (decode ws = none)

/-- A prefix with a second word of no row, a read-type operation after 7D, holes of the map. -/
theorem test_undefined_codes :
    refused [[0x0100, 0x0000], [0x0140, 0x6981], [0x01F0, 0x6798], [0x7D00, 0x7300], [0x7C00, 0x7000], [0x7B5C, 0x598E],
      [0x0001], [0x0F18], [0x5480], [0x5A00], [], [0x7A00, 0x1234], [0x0B60], [0x5740], [0x6B10, 0x0000]] = true := by
  decide

/-! ### The host's numbering -/

theorem test_table_word_one : decodeTableWord 16 0x0C39 = some (.movBRsRd ⟨.er3, .h⟩ ⟨.er1, .l⟩) := by decide

theorem test_table_word_first_high : decodeTableWord 32 0x01F06610 = some (.andLERsERd .er1 .er0) := by decide

theorem test_table_word_first_low : decodeTableWord 32 0x661001F0 = some (.andLERsERd .er1 .er0) := by decide

theorem test_withFetchWord_runs : step (State.reset.withFetchWord 16 0xF0FF) =
    exec (.movBImm8Rd 0xFF ⟨.er0, .h⟩) { (State.reset.withFetchWord 16 0xF0FF).sample with intInhibit := false } := by
  rfl

/-! ### Steps -/

/-- The result is a next state with this property. -/
def gives (r : Result) (p : State → Bool) : Bool :=
  match r with
  | .next t => p t
  | _ => false

/-- The result is this fault. -/
def stops (r : Result) (f : Fault) : Bool :=
  match r with
  | .fault g => decide (g = f)
  | _ => false

theorem exists_next (r : Result) (h : gives r (fun _ => true) = true) : ∃ t, r = .next t := by
  cases r with
  | next t => exact ⟨t, rfl⟩
  | fault _ => cases h
  | refused _ => cases h

/-- What both ways of a draw give. -/
theorem gives_drawn (b : Bool) (a c : Result) (p : State → Bool) (ha : gives a p = true) (hc : gives c p = true) :
    gives (drawn b a c) p = true := by
  rw [drawn_eq]
  cases b
  · exact hc
  · exact ha

/-- The vectors' start state: advanced mode, PC = H'001000, RAM with these bytes, the code at PC. -/
noncomputable def start (regs : RegFile) (ccr : Byte) (cells : List Host.Cell) (ws : List Word) : State :=
  State.placeInstruction
    { State.reset with regs := regs, pc := 0x1000, ccr := ccr, intInhibit := false, mem := cells } ws

/-- One step of it. -/
noncomputable def runs (regs : RegFile) (ccr : Byte) (cells : List Host.Cell) (ws : List Word) : Result :=
  step (start regs ccr cells ws)

/-- The same in normal mode. -/
noncomputable def runsNormal (regs : RegFile) (ccr : Byte) (cells : List Host.Cell) (ws : List Word) : Result :=
  step { start regs ccr cells ws with params := { Params.default with mode := .normal } }

/-- BSET #3,R2H. -/
theorem test_v1_bset : gives (runs ⟨0, 0, 0, 0, 0, 0, 0, 0⟩ 0x0 [] [0x7032])
    (fun t => t.regs.er2 == 0x800 && t.ccr == 0x0 && t.pc == 0x1002) = true := by decide

/-- BLD #5,@H'02:8. -/
theorem test_v3_bld : gives (runs ⟨0, 0, 0, 0, 0, 0, 0, 0⟩ 0x0 [(0xFFFF02, 0x20)] [0x7E02, 0x7750])
    (fun t => t.ccr == 0x1 && t.pc == 0x1004) = true := by decide

/-- DEC.B R0L. -/
theorem test_v5_dec_b : gives (runs ⟨0x80, 0, 0, 0, 0, 0, 0, 0⟩ 0x0 [] [0x1A08])
    (fun t => t.regs.er0 == 0x7F && t.ccr == 0x2 && t.pc == 0x1002) = true := by decide

/-- DEC.W #1,R0. -/
theorem test_v6_dec_w : gives (runs ⟨0x8000, 0, 0, 0, 0, 0, 0, 0⟩ 0x0 [] [0x1B50])
    (fun t => t.regs.er0 == 0x7FFF && t.ccr == 0x2 && t.pc == 0x1002) = true := by decide

/-- DEC.L #1,ER0. -/
theorem test_v9_dec_l : gives (runs ⟨0x80000000, 0, 0, 0, 0, 0, 0, 0⟩ 0x0 [] [0x1B70])
    (fun t => t.regs.er0 == 0x7FFFFFFF && t.ccr == 0x2 && t.pc == 0x1002) = true := by decide

/-- INC.B R0L. -/
theorem test_v12_inc_b : gives (runs ⟨0x7F, 0, 0, 0, 0, 0, 0, 0⟩ 0x0 [] [0x0A08])
    (fun t => t.regs.er0 == 0x80 && t.ccr == 0xA && t.pc == 0x1002) = true := by decide

/-- INC.W #1,R0. -/
theorem test_v13_inc_w : gives (runs ⟨0x7FFF, 0, 0, 0, 0, 0, 0, 0⟩ 0x0 [] [0x0B50])
    (fun t => t.regs.er0 == 0x8000 && t.ccr == 0xA && t.pc == 0x1002) = true := by decide

/-- INC.L #1,ER0. -/
theorem test_v16_inc_l : gives (runs ⟨0x7FFFFFFF, 0, 0, 0, 0, 0, 0, 0⟩ 0x0 [] [0x0B70])
    (fun t => t.regs.er0 == 0x80000000 && t.ccr == 0xA && t.pc == 0x1002) = true := by decide

/-- NEG.B R0L. -/
theorem test_v19_neg_b : gives (runs ⟨0x80, 0, 0, 0, 0, 0, 0, 0⟩ 0x0 [] [0x1788])
    (fun t => t.ccr == 0xB && t.pc == 0x1002) = true := by decide

/-- NEG.W R0. -/
theorem test_v20_neg_w : gives (runs ⟨0x8000, 0, 0, 0, 0, 0, 0, 0⟩ 0x0 [] [0x1790])
    (fun t => t.ccr == 0xB && t.pc == 0x1002) = true := by decide

/-- NEG.L ER0. -/
theorem test_v21_neg_l : gives (runs ⟨0x80000000, 0, 0, 0, 0, 0, 0, 0⟩ 0x0 [] [0x17B0])
    (fun t => t.ccr == 0xB && t.pc == 0x1002) = true := by decide

/-- MOV.B #H'80,R0L. -/
theorem test_v22_mov_b : gives (runs ⟨0, 0, 0, 0, 0, 0, 0, 0⟩ 0x23 [] [0xF880])
    (fun t => t.regs.er0 == 0x80 && t.ccr == 0x29 && t.pc == 0x1002) = true := by decide

/-- MOV.W #H'1234,E1. -/
theorem test_v26_mov_w : gives (runs ⟨0, 0xFFFFFFFF, 0, 0, 0, 0, 0, 0⟩ 0x0 [] [0x7909, 0x1234])
    (fun t => t.regs.er1 == 0x1234FFFF && t.ccr == 0x0 && t.pc == 0x1004) = true := by decide

/-- MOV.L #0,ER0. -/
theorem test_v28_mov_l : gives (runs ⟨0x12345678, 0, 0, 0, 0, 0, 0, 0⟩ 0xB [] [0x7A00, 0x0000, 0x0000])
    (fun t => t.regs.er0 == 0x0 && t.ccr == 0x5 && t.pc == 0x1006) = true := by decide

/-- POP.W R1. -/
theorem test_v83_pop_w : gives (runs ⟨0, 0, 0, 0, 0, 0, 0, 0xFFFEFE⟩ 0x0 [(0xFFFEFE, 0x80), (0xFFFEFF, 0x1)] [0x6D71])
    (fun t => t.regs.er1 == 0x8001 && t.regs.er7 == 0xFFFF00 && t.ccr == 0x8 && t.pc == 0x1002) = true := by decide

/-- POP.L ER2. -/
theorem test_v85_pop_l : gives (runs ⟨0, 0, 0, 0, 0, 0, 0, 0xFFFEFC⟩ 0x8 [] [0x0100, 0x6D72])
    (fun t => t.regs.er7 == 0xFFFF00 && t.ccr == 0x4 && t.pc == 0x1004) = true := by decide

/-- PUSH.W R1. -/
theorem test_v87_push_w : gives (runs ⟨0, 0xFFFE, 0, 0, 0, 0, 0, 0xFFFF00⟩ 0x0 [] [0x6DF1])
    (fun t => t.regs.er7 == 0xFFFEFE && t.ccr == 0x8 && memLookup t.mem 0xFFFEFE == 0xFF && memLookup t.mem 0xFFFEFF == 0xFE && t.pc == 0x1002) = true := by decide

/-- ADD.B #1,R0L. -/
theorem test_v97_add_b : gives (runs ⟨0xFF, 0, 0, 0, 0, 0, 0, 0⟩ 0x0 [] [0x8801])
    (fun t => t.regs.er0 == 0x0 && t.ccr == 0x25 && t.pc == 0x1002) = true := by decide

/-- ADD.W #H'0001,R0. -/
theorem test_v101_add_w : gives (runs ⟨0xFFF, 0, 0, 0, 0, 0, 0, 0⟩ 0x0 [] [0x7910, 0x0001])
    (fun t => t.regs.er0 == 0x1000 && t.ccr == 0x20 && t.pc == 0x1004) = true := by decide

/-- ADD.L #H'00000001,ER0. -/
theorem test_v104_add_l : gives (runs ⟨0xFFFFFFF, 0, 0, 0, 0, 0, 0, 0⟩ 0x0 [] [0x7A10, 0x0000, 0x0001])
    (fun t => t.regs.er0 == 0x10000000 && t.ccr == 0x20 && t.pc == 0x1006) = true := by decide

/-- ADDS #1,ER0. -/
theorem test_v107_adds : gives (runs ⟨0xFFFFFFFF, 0, 0, 0, 0, 0, 0, 0⟩ 0x0 [] [0x0B00])
    (fun t => t.regs.er0 == 0x0 && t.ccr == 0x0 && t.pc == 0x1002) = true := by decide

/-- ADDX #H'00,R0L. -/
theorem test_v110_addx : gives (runs ⟨0, 0, 0, 0, 0, 0, 0, 0⟩ 0x0 [] [0x9800])
    (fun t => t.ccr == 0x0 && t.pc == 0x1002) = true := by decide

/-- SUB.B R1L,R0L. -/
theorem test_v115_sub_b : gives (runs ⟨0, 1, 0, 0, 0, 0, 0, 0⟩ 0x0 [] [0x1898])
    (fun t => t.regs.er0 == 0xFF && t.ccr == 0x29 && t.pc == 0x1002) = true := by decide

/-- SUB.W #H'0001,R0. -/
theorem test_v117_sub_w : gives (runs ⟨0x8000, 0, 0, 0, 0, 0, 0, 0⟩ 0x0 [] [0x7930, 0x0001])
    (fun t => t.regs.er0 == 0x7FFF && t.ccr == 0x22 && t.pc == 0x1004) = true := by decide

/-- SUB.L #H'00000001,ER0. -/
theorem test_v119_sub_l : gives (runs ⟨0, 0, 0, 0, 0, 0, 0, 0⟩ 0x0 [] [0x7A30, 0x0000, 0x0001])
    (fun t => t.regs.er0 == 0xFFFFFFFF && t.ccr == 0x29 && t.pc == 0x1006) = true := by decide

/-- SUBS #1,ER0. -/
theorem test_v121_subs : gives (runs ⟨0, 0, 0, 0, 0, 0, 0, 0⟩ 0xF [] [0x1B00])
    (fun t => t.regs.er0 == 0xFFFFFFFF && t.ccr == 0xF && t.pc == 0x1002) = true := by decide

/-- SUBX #H'00,R0L. -/
theorem test_v124_subx : gives (runs ⟨0, 0, 0, 0, 0, 0, 0, 0⟩ 0x5 [] [0xB800])
    (fun t => t.regs.er0 == 0xFF && t.ccr == 0x29 && t.pc == 0x1002) = true := by decide

/-- CMP.B #H'00,R0L. -/
theorem test_v128_cmp_b : gives (runs ⟨0, 0, 0, 0, 0, 0, 0, 0⟩ 0x0 [] [0xA800])
    (fun t => t.ccr == 0x4 && t.pc == 0x1002) = true := by decide

/-- CMP.W #H'8000,R0. -/
theorem test_v131_cmp_w : gives (runs ⟨0x7FFF, 0, 0, 0, 0, 0, 0, 0⟩ 0x0 [] [0x7920, 0x8000])
    (fun t => t.ccr == 0xB && t.pc == 0x1004) = true := by decide

/-- CMP.L #H'FFFFFFFF,ER0. -/
theorem test_v133_cmp_l : gives (runs ⟨0xFFFFFFFF, 0, 0, 0, 0, 0, 0, 0⟩ 0x0 [] [0x7A20, 0xFFFF, 0xFFFF])
    (fun t => t.ccr == 0x4 && t.pc == 0x1006) = true := by decide

/-- EXTU.W R0. -/
theorem test_v151_extu_w : gives (runs ⟨0xFF80, 0, 0, 0, 0, 0, 0, 0⟩ 0xB [] [0x1750])
    (fun t => t.regs.er0 == 0x80 && t.ccr == 0x1 && t.pc == 0x1002) = true := by decide

/-- EXTU.L ER0. -/
theorem test_v153_extu_l : gives (runs ⟨0xFFFF0000, 0, 0, 0, 0, 0, 0, 0⟩ 0x0 [] [0x1770])
    (fun t => t.regs.er0 == 0x0 && t.ccr == 0x4 && t.pc == 0x1002) = true := by decide

/-- EXTS.W R0. -/
theorem test_v155_exts_w : gives (runs ⟨0x80, 0, 0, 0, 0, 0, 0, 0⟩ 0x0 [] [0x17D0])
    (fun t => t.regs.er0 == 0xFF80 && t.ccr == 0x8 && t.pc == 0x1002) = true := by decide

/-- EXTS.L ER0. -/
theorem test_v158_exts_l : gives (runs ⟨0x8000, 0, 0, 0, 0, 0, 0, 0⟩ 0x0 [] [0x17F0])
    (fun t => t.regs.er0 == 0xFFFF8000 && t.ccr == 0x8 && t.pc == 0x1002) = true := by decide

/-- MULXU.B R0L,R1. -/
theorem test_v160_mulxu_b : gives (runs ⟨0xFF, 0x12FF, 0, 0, 0, 0, 0, 0⟩ 0xF [] [0x5081])
    (fun t => t.regs.er1 == 0xFE01 && t.ccr == 0xF && t.pc == 0x1002) = true := by decide

/-- MULXU.W R0,ER1. -/
theorem test_v164_mulxu_w : gives (runs ⟨0xFFFF, 0x1234FFFF, 0, 0, 0, 0, 0, 0⟩ 0x0 [] [0x5201])
    (fun t => t.regs.er1 == 0xFFFE0001 && t.ccr == 0x0 && t.pc == 0x1002) = true := by decide

/-- MULXS.B R0L,R1. -/
theorem test_v166_mulxs_b : gives (runs ⟨0xFF, 0xFF, 0, 0, 0, 0, 0, 0⟩ 0x0 [] [0x01C0, 0x5081])
    (fun t => t.regs.er1 == 0x1 && t.ccr == 0x0 && t.pc == 0x1004) = true := by decide

/-- MULXS.W R0,ER1. -/
theorem test_v170_mulxs_w : gives (runs ⟨1, 0xFFFF, 0, 0, 0, 0, 0, 0⟩ 0x0 [] [0x01C0, 0x5201])
    (fun t => t.regs.er1 == 0xFFFFFFFF && t.ccr == 0x8 && t.pc == 0x1004) = true := by decide

/-- DIVXU.B R0L,R1. -/
theorem test_v173_divxu_b : gives (runs ⟨7, 0x64, 0, 0, 0, 0, 0, 0⟩ 0x0 [] [0x5181])
    (fun t => t.regs.er1 == 0x20E && t.ccr == 0x0 && t.pc == 0x1002) = true := by decide

/-- DIVXU.W R0,ER1. -/
theorem test_v180_divxu_w : gives (runs ⟨0xFFFF, 0x1FFFE, 0, 0, 0, 0, 0, 0⟩ 0x0 [] [0x5301])
    (fun t => t.regs.er1 == 0x2 && t.ccr == 0x8 && t.pc == 0x1002) = true := by decide

/-- DIVXS.B R0L,R1. -/
theorem test_v184_divxs_b : gives (runs ⟨2, 0xFFF9, 0, 0, 0, 0, 0, 0⟩ 0x0 [] [0x01D0, 0x5181])
    (fun t => t.regs.er1 == 0xFFFD && t.ccr == 0x8 && t.pc == 0x1004) = true := by decide

/-- DIVXS.W R0,ER1. -/
theorem test_v191_divxs_w : gives (runs ⟨2, 0xFFFFFFF9, 0, 0, 0, 0, 0, 0⟩ 0x0 [] [0x01D0, 0x5301])
    (fun t => t.regs.er1 == 0xFFFFFFFD && t.ccr == 0x8 && t.pc == 0x1004) = true := by decide

/-- DAA R0L. -/
theorem test_v194_daa : gives (runs ⟨0, 0, 0, 0, 0, 0, 0, 0⟩ 0x0 [] [0x0F08])
    (fun t => t.pc == 0x1002) = true := by decide

/-- DAS R0L. -/
theorem test_v215_das : gives (runs ⟨0, 0, 0, 0, 0, 0, 0, 0⟩ 0x0 [] [0x1F08])
    (fun t => t.pc == 0x1002) = true := by decide

/-- AND.B R1L,R0L. -/
theorem test_v225_and_b : gives (runs ⟨0xFF, 0x80, 0, 0, 0, 0, 0, 0⟩ 0x23 [] [0x1698])
    (fun t => t.regs.er0 == 0x80 && t.ccr == 0x29 && t.pc == 0x1002) = true := by decide

/-- AND.W R1,R0. -/
theorem test_v227_and_w : gives (runs ⟨0xFF, 0xFF00, 0, 0, 0, 0, 0, 0⟩ 0x0 [] [0x6610])
    (fun t => t.regs.er0 == 0x0 && t.ccr == 0x4 && t.pc == 0x1002) = true := by decide

/-- AND.L #H'FF0000FF,ER0. -/
theorem test_v229_and_l : gives (runs ⟨0x12345678, 0, 0, 0, 0, 0, 0, 0⟩ 0x0 [] [0x7A60, 0xFF00, 0x00FF])
    (fun t => t.regs.er0 == 0x12000078 && t.ccr == 0x0 && t.pc == 0x1006) = true := by decide

/-- OR.L ER1,ER0. -/
theorem test_v231_or_l : gives (runs ⟨0, 0, 0, 0, 0, 0, 0, 0⟩ 0xB [] [0x01F0, 0x6410])
    (fun t => t.ccr == 0x5 && t.pc == 0x1004) = true := by decide

/-- OR.B #H'80,R0L. -/
theorem test_v232_or_b : gives (runs ⟨1, 0, 0, 0, 0, 0, 0, 0⟩ 0x0 [] [0xC880])
    (fun t => t.regs.er0 == 0x81 && t.ccr == 0x8 && t.pc == 0x1002) = true := by decide

/-- OR.W #H'00FF,R0. -/
theorem test_v234_or_w : gives (runs ⟨0x7F00, 0, 0, 0, 0, 0, 0, 0⟩ 0x0 [] [0x7940, 0x00FF])
    (fun t => t.regs.er0 == 0x7FFF && t.ccr == 0x0 && t.pc == 0x1004) = true := by decide

/-- XOR.W R0,R0. -/
theorem test_v237_xor_w : gives (runs ⟨0xAAAA, 0, 0, 0, 0, 0, 0, 0⟩ 0x0 [] [0x6500])
    (fun t => t.regs.er0 == 0x0 && t.ccr == 0x4 && t.pc == 0x1002) = true := by decide

/-- XOR.L #H'FFFFFFFF,ER0. -/
theorem test_v238_xor_l : gives (runs ⟨0x7FFFFFFF, 0, 0, 0, 0, 0, 0, 0⟩ 0x0 [] [0x7A50, 0xFFFF, 0xFFFF])
    (fun t => t.regs.er0 == 0x80000000 && t.ccr == 0x8 && t.pc == 0x1006) = true := by decide

/-- XOR.B #H'FF,R0L. -/
theorem test_v239_xor_b : gives (runs ⟨0xFF, 0, 0, 0, 0, 0, 0, 0⟩ 0x2B [] [0xD8FF])
    (fun t => t.regs.er0 == 0x0 && t.ccr == 0x25 && t.pc == 0x1002) = true := by decide

/-- NOT.B R0L. -/
theorem test_v243_not_b : gives (runs ⟨0xFF, 0, 0, 0, 0, 0, 0, 0⟩ 0x23 [] [0x1708])
    (fun t => t.regs.er0 == 0x0 && t.ccr == 0x25 && t.pc == 0x1002) = true := by decide

/-- NOT.W E0. -/
theorem test_v245_not_w : gives (runs ⟨0x1234, 0, 0, 0, 0, 0, 0, 0⟩ 0x0 [] [0x1718])
    (fun t => t.regs.er0 == 0xFFFF1234 && t.ccr == 0x8 && t.pc == 0x1002) = true := by decide

/-- NOT.L ER0. -/
theorem test_v246_not_l : gives (runs ⟨0xFFFFFFFF, 0, 0, 0, 0, 0, 0, 0⟩ 0x0 [] [0x1730])
    (fun t => t.regs.er0 == 0x0 && t.ccr == 0x4 && t.pc == 0x1002) = true := by decide

/-- SHAL.B R0L. -/
theorem test_v247_shal_b : gives (runs ⟨0x80, 0, 0, 0, 0, 0, 0, 0⟩ 0x0 [] [0x1088])
    (fun t => t.regs.er0 == 0x0 && t.ccr == 0x7 && t.pc == 0x1002) = true := by decide

/-- SHAL.B R0L. -/
theorem test_v249_shal_b : gives (runs ⟨0xC0, 0, 0, 0, 0, 0, 0, 0⟩ 0x0 [] [0x1088])
    (fun t => t.regs.er0 == 0x80 && t.ccr == 0x9 && t.pc == 0x1002) = true := by decide

/-- SHAL.W R0. -/
theorem test_v250_shal_w : gives (runs ⟨0x4000, 0, 0, 0, 0, 0, 0, 0⟩ 0x0 [] [0x1090])
    (fun t => t.regs.er0 == 0x8000 && t.ccr == 0xA && t.pc == 0x1002) = true := by decide

/-- SHAL.L ER0. -/
theorem test_v251_shal_l : gives (runs ⟨0xFFFFFFFF, 0, 0, 0, 0, 0, 0, 0⟩ 0x0 [] [0x10B0])
    (fun t => t.regs.er0 == 0xFFFFFFFE && t.ccr == 0x9 && t.pc == 0x1002) = true := by decide

/-- SHLL.B R0L. -/
theorem test_v252_shll_b : gives (runs ⟨0x7F, 0, 0, 0, 0, 0, 0, 0⟩ 0x22 [] [0x1008])
    (fun t => t.regs.er0 == 0xFE && t.ccr == 0x28 && t.pc == 0x1002) = true := by decide

/-- SHLL.W E0. -/
theorem test_v253_shll_w : gives (runs ⟨0x80000000, 0, 0, 0, 0, 0, 0, 0⟩ 0x0 [] [0x1018])
    (fun t => t.regs.er0 == 0x0 && t.ccr == 0x5 && t.pc == 0x1002) = true := by decide

/-- SHLL.L ER0. -/
theorem test_v254_shll_l : gives (runs ⟨0x40000000, 0, 0, 0, 0, 0, 0, 0⟩ 0x0 [] [0x1030])
    (fun t => t.regs.er0 == 0x80000000 && t.ccr == 0x8 && t.pc == 0x1002) = true := by decide

/-- SHAR.B R0L. -/
theorem test_v255_shar_b : gives (runs ⟨0xFF, 0, 0, 0, 0, 0, 0, 0⟩ 0x0 [] [0x1188])
    (fun t => t.ccr == 0x9 && t.pc == 0x1002) = true := by decide

/-- SHAR.W R0. -/
theorem test_v256_shar_w : gives (runs ⟨0x8000, 0, 0, 0, 0, 0, 0, 0⟩ 0x0 [] [0x1190])
    (fun t => t.regs.er0 == 0xC000 && t.ccr == 0x8 && t.pc == 0x1002) = true := by decide

/-- SHAR.L ER0. -/
theorem test_v258_shar_l : gives (runs ⟨0x80000001, 0, 0, 0, 0, 0, 0, 0⟩ 0x0 [] [0x11B0])
    (fun t => t.regs.er0 == 0xC0000000 && t.ccr == 0x9 && t.pc == 0x1002) = true := by decide

/-- SHLR.B R0L. -/
theorem test_v259_shlr_b : gives (runs ⟨0xFF, 0, 0, 0, 0, 0, 0, 0⟩ 0x0 [] [0x1108])
    (fun t => t.regs.er0 == 0x7F && t.ccr == 0x1 && t.pc == 0x1002) = true := by decide

/-- SHLR.L ER0. -/
theorem test_v260_shlr_l : gives (runs ⟨1, 0, 0, 0, 0, 0, 0, 0⟩ 0x0 [] [0x1130])
    (fun t => t.regs.er0 == 0x0 && t.ccr == 0x5 && t.pc == 0x1002) = true := by decide

/-- SHLR.W R0. -/
theorem test_v261_shlr_w : gives (runs ⟨0x8000, 0, 0, 0, 0, 0, 0, 0⟩ 0xB [] [0x1110])
    (fun t => t.regs.er0 == 0x4000 && t.ccr == 0x0 && t.pc == 0x1002) = true := by decide

/-- ROTL.B R0L. -/
theorem test_v262_rotl_b : gives (runs ⟨0x80, 0, 0, 0, 0, 0, 0, 0⟩ 0x0 [] [0x1288])
    (fun t => t.regs.er0 == 0x1 && t.ccr == 0x1 && t.pc == 0x1002) = true := by decide

/-- ROTL.W R0. -/
theorem test_v263_rotl_w : gives (runs ⟨1, 0, 0, 0, 0, 0, 0, 0⟩ 0x1 [] [0x1290])
    (fun t => t.regs.er0 == 0x2 && t.ccr == 0x0 && t.pc == 0x1002) = true := by decide

/-- ROTL.L ER0. -/
theorem test_v264_rotl_l : gives (runs ⟨0x80000000, 0, 0, 0, 0, 0, 0, 0⟩ 0x0 [] [0x12B0])
    (fun t => t.regs.er0 == 0x1 && t.ccr == 0x1 && t.pc == 0x1002) = true := by decide

/-- ROTR.B R0L. -/
theorem test_v265_rotr_b : gives (runs ⟨1, 0, 0, 0, 0, 0, 0, 0⟩ 0x0 [] [0x1388])
    (fun t => t.regs.er0 == 0x80 && t.ccr == 0x9 && t.pc == 0x1002) = true := by decide

/-- ROTR.L ER0. -/
theorem test_v266_rotr_l : gives (runs ⟨2, 0, 0, 0, 0, 0, 0, 0⟩ 0x1 [] [0x13B0])
    (fun t => t.regs.er0 == 0x1 && t.ccr == 0x0 && t.pc == 0x1002) = true := by decide

/-- ROTR.W R0. -/
theorem test_v267_rotr_w : gives (runs ⟨1, 0, 0, 0, 0, 0, 0, 0⟩ 0x0 [] [0x1390])
    (fun t => t.regs.er0 == 0x8000 && t.ccr == 0x9 && t.pc == 0x1002) = true := by decide

/-- ROTXL.B R0L. -/
theorem test_v268_rotxl_b : gives (runs ⟨0x80, 0, 0, 0, 0, 0, 0, 0⟩ 0x0 [] [0x1208])
    (fun t => t.regs.er0 == 0x0 && t.ccr == 0x5 && t.pc == 0x1002) = true := by decide

/-- ROTXL.B R0L. -/
theorem test_v269_rotxl_b : gives (runs ⟨0, 0, 0, 0, 0, 0, 0, 0⟩ 0x1 [] [0x1208])
    (fun t => t.regs.er0 == 0x1 && t.ccr == 0x0 && t.pc == 0x1002) = true := by decide

/-- ROTXL.W R0. -/
theorem test_v270_rotxl_w : gives (runs ⟨0xFFFF, 0, 0, 0, 0, 0, 0, 0⟩ 0x0 [] [0x1210])
    (fun t => t.regs.er0 == 0xFFFE && t.ccr == 0x9 && t.pc == 0x1002) = true := by decide

/-- ROTXL.L ER0. -/
theorem test_v271_rotxl_l : gives (runs ⟨0x80000000, 0, 0, 0, 0, 0, 0, 0⟩ 0x1 [] [0x1230])
    (fun t => t.regs.er0 == 0x1 && t.ccr == 0x1 && t.pc == 0x1002) = true := by decide

/-- ROTXR.B R0L. -/
theorem test_v272_rotxr_b : gives (runs ⟨1, 0, 0, 0, 0, 0, 0, 0⟩ 0x0 [] [0x1308])
    (fun t => t.regs.er0 == 0x0 && t.ccr == 0x5 && t.pc == 0x1002) = true := by decide

/-- ROTXR.L ER0. -/
theorem test_v274_rotxr_l : gives (runs ⟨0xFFFFFFFF, 0, 0, 0, 0, 0, 0, 0⟩ 0x0 [] [0x1330])
    (fun t => t.regs.er0 == 0x7FFFFFFF && t.ccr == 0x1 && t.pc == 0x1002) = true := by decide

/-- ROTXR.W E0. -/
theorem test_v275_rotxr_w : gives (runs ⟨0x15555, 0, 0, 0, 0, 0, 0, 0⟩ 0x1 [] [0x1318])
    (fun t => t.regs.er0 == 0x80005555 && t.ccr == 0x9 && t.pc == 0x1002) = true := by decide

/-- BSET #1,@H'00:8. -/
theorem test_v281_bset : gives (runsNormal ⟨0, 0, 0, 0, 0, 0, 0, 0⟩ 0x0 [] [0x7F00, 0x7010])
    (fun t => t.ccr == 0x0 && memLookup t.mem 0xFF00 == 0x2 && t.pc == 0x1004) = true := by decide

/-- BCLR #0,R0L. -/
theorem test_v282_bclr : gives (runs ⟨1, 0, 0, 0, 0, 0, 0, 0⟩ 0x0 [] [0x7208])
    (fun t => t.regs.er0 == 0x0 && t.ccr == 0x0 && t.pc == 0x1002) = true := by decide

/-- BNOT #7,R0H. -/
theorem test_v287_bnot : gives (runs ⟨0x8000, 0, 0, 0, 0, 0, 0, 0⟩ 0x0 [] [0x7170])
    (fun t => t.regs.er0 == 0x0 && t.ccr == 0x0 && t.pc == 0x1002) = true := by decide

/-- BNOT #0,@ER1. -/
theorem test_v288_bnot : gives (runs ⟨0, 0xFF8001, 0, 0, 0, 0, 0, 0⟩ 0x0 [] [0x7D10, 0x7100])
    (fun t => t.ccr == 0x0 && memLookup t.mem 0xFF8001 == 0x1 && t.pc == 0x1004) = true := by decide

/-- BTST #7,R0L. -/
theorem test_v293_btst : gives (runs ⟨0x80, 0, 0, 0, 0, 0, 0, 0⟩ 0x4 [] [0x7378])
    (fun t => t.ccr == 0x0 && t.pc == 0x1002) = true := by decide

/-- BTST #0,@H'20:8. -/
theorem test_v298_btst : gives (runs ⟨0, 0, 0, 0, 0, 0, 0, 0⟩ 0x2F [(0xFFFF20, 0x1)] [0x7E20, 0x7300])
    (fun t => t.ccr == 0x2B && t.pc == 0x1004) = true := by decide

/-- BAND #0,R0L. -/
theorem test_v299_band : gives (runs ⟨1, 0, 0, 0, 0, 0, 0, 0⟩ 0x1 [] [0x7608])
    (fun t => t.ccr == 0x1 && t.pc == 0x1002) = true := by decide

/-- BIAND #0,R0L. -/
theorem test_v303_biand : gives (runs ⟨0xFE, 0, 0, 0, 0, 0, 0, 0⟩ 0x1 [] [0x7688])
    (fun t => t.ccr == 0x1 && t.pc == 0x1002) = true := by decide

/-- BOR #2,R0L. -/
theorem test_v306_bor : gives (runs ⟨0, 0, 0, 0, 0, 0, 0, 0⟩ 0x0 [] [0x7428])
    (fun t => t.ccr == 0x0 && t.pc == 0x1002) = true := by decide

/-- BIOR #2,R0L. -/
theorem test_v309_bior : gives (runs ⟨4, 0, 0, 0, 0, 0, 0, 0⟩ 0x0 [] [0x74A8])
    (fun t => t.ccr == 0x0 && t.pc == 0x1002) = true := by decide

/-- BXOR #5,R0L. -/
theorem test_v312_bxor : gives (runs ⟨0x20, 0, 0, 0, 0, 0, 0, 0⟩ 0x1 [] [0x7558])
    (fun t => t.ccr == 0x0 && t.pc == 0x1002) = true := by decide

/-- BIXOR #5,R0L. -/
theorem test_v315_bixor : gives (runs ⟨0x20, 0, 0, 0, 0, 0, 0, 0⟩ 0x1 [] [0x75D8])
    (fun t => t.ccr == 0x1 && t.pc == 0x1002) = true := by decide

/-- BILD #6,R0L. -/
theorem test_v321_bild : gives (runs ⟨0x40, 0, 0, 0, 0, 0, 0, 0⟩ 0x0 [] [0x77E8])
    (fun t => t.ccr == 0x0 && t.pc == 0x1002) = true := by decide

/-- BST #3,R0L. -/
theorem test_v324_bst : gives (runs ⟨0, 0, 0, 0, 0, 0, 0, 0⟩ 0x1 [] [0x6738])
    (fun t => t.regs.er0 == 0x8 && t.ccr == 0x1 && t.pc == 0x1002) = true := by decide

/-- BIST #3,R0L. -/
theorem test_v327_bist : gives (runs ⟨0, 0, 0, 0, 0, 0, 0, 0⟩ 0x1 [] [0x67B8])
    (fun t => t.ccr == 0x1 && t.pc == 0x1002) = true := by decide

/-- JMP @ER1. -/
theorem test_v344_jmp : gives (runs ⟨0, 0xFF000101, 0, 0, 0, 0, 0, 0⟩ 0x0 [] [0x5910])
    (fun t => t.ccr == 0x0 && t.pc == 0x100) = true := by decide

/-- JSR @ER7. -/
theorem test_v353_jsr : gives (runs ⟨0, 0, 0, 0, 0, 0, 0, 0xFFFF00⟩ 0x0 [] [0x5D70])
    (fun t => t.regs.er7 == 0xFFFEFC && t.ccr == 0x0 && t.pc == 0xFFFF00) = true := by decide

/-- RTS. -/
theorem test_v357_rts : gives (runs ⟨0, 0, 0, 0, 0, 0, 0, 0xFFFEFC⟩ 0x0 [(0xFFFEFC, 0xFF), (0xFFFEFD, 0x1), (0xFFFEFE, 0x23), (0xFFFEFF, 0x45)] [0x5470])
    (fun t => t.regs.er7 == 0xFFFF00 && t.ccr == 0x0 && t.pc == 0x12344) = true := by decide

/-- ANDC #H'00,CCR. -/
theorem test_v360_andc : gives (runs ⟨0, 0, 0, 0, 0, 0, 0, 0⟩ 0xFF [] [0x0600])
    (fun t => t.ccr == 0x0 && t.pc == 0x1002) = true := by decide

/-- ORC #H'7F,CCR. -/
theorem test_v362_orc : gives (runs ⟨0, 0, 0, 0, 0, 0, 0, 0⟩ 0x2A [] [0x047F])
    (fun t => t.ccr == 0x7F && t.pc == 0x1002) = true := by decide

/-- XORC #H'FF,CCR. -/
theorem test_v363_xorc : gives (runs ⟨0, 0, 0, 0, 0, 0, 0, 0⟩ 0x2A [] [0x05FF])
    (fun t => t.ccr == 0xD5 && t.pc == 0x1002) = true := by decide

/-- LDC R0H,CCR. -/
theorem test_v365_ldc : gives (runs ⟨0xC300, 0, 0, 0, 0, 0, 0, 0⟩ 0x0 [] [0x0300])
    (fun t => t.ccr == 0xC3 && t.pc == 0x1002) = true := by decide

/-- STC CCR,R0H. -/
theorem test_v368_stc : gives (runs ⟨0, 0, 0, 0, 0, 0, 0, 0⟩ 0xD5 [] [0x0200])
    (fun t => t.regs.er0 == 0xD500 && t.ccr == 0xD5 && t.pc == 0x1002) = true := by decide

/-- LDC.W @ER7+,CCR. -/
theorem test_v370_ldc_w : gives (runs ⟨0, 0, 0, 0, 0, 0, 0, 0xFFFEFE⟩ 0x0 [(0xFFFEFE, 0xD5), (0xFFFEFF, 0xAA)] [0x0140, 0x6D70])
    (fun t => t.regs.er7 == 0xFFFF00 && t.ccr == 0xD5 && t.pc == 0x1004) = true := by decide

/-- RTE. -/
theorem test_v386_rte : gives (runs ⟨0, 0, 0, 0, 0, 0, 0, 0xFFFEFC⟩ 0x0 [(0xFFFEFC, 0xC5), (0xFFFEFD, 0x12), (0xFFFEFE, 0x34), (0xFFFEFF, 0x57)] [0x5670])
    (fun t => t.regs.er7 == 0xFFFF00 && t.ccr == 0xC5 && t.pc == 0x123456) = true := by decide

/-- EEPMOV.B. -/
theorem test_v392_eepmov_b : gives (runs ⟨0, 0, 0, 0, 0, 0x1000, 0x2000, 0⟩ 0x2F [] [0x7B5C, 0x598F])
    (fun t => t.ccr == 0x2F && t.pc == 0x1004) = true := by decide

/-- NOP (R459). -/
theorem test_nop : gives (runs ⟨1, 2, 3, 4, 5, 6, 7, 8⟩ 0x2F [] [0x0000])
    (fun t => t.regs == ⟨1, 2, 3, 4, 5, 6, 7, 8⟩ && t.ccr == 0x2F && t.pc == 0x1002) = true := by decide

/-- BNE -2 taken and not taken (R401). -/
theorem test_bne_taken : gives (runs ⟨0, 0, 0, 0, 0, 0, 0, 0⟩ 0x00 [] [0x46FE]) (fun t => t.pc == 0x1000) = true := by
  decide

theorem test_bne_not_taken : gives (runs ⟨0, 0, 0, 0, 0, 0, 0, 0⟩ 0x04 [] [0x46FE]) (fun t => t.pc == 0x1002) = true := by
  decide

/-- BGT with N and V set and Z clear is taken (R403). -/
theorem test_bgt_d16 : gives (runs ⟨0, 0, 0, 0, 0, 0, 0, 0⟩ 0x0A [] [0x58E0, 0x0100]) (fun t => t.pc == 0x1104) = true := by
  decide

/-- BSR moves ER7 by 4 (R407, R413). -/
theorem test_bsr : gives (runs ⟨0, 0, 0, 0, 0, 0, 0, 0x2000⟩ 0x00 [] [0x5510])
    (fun t => t.regs.er7 == 0x1FFC && t.pc == 0x1012) = true := by decide

/-- BSR in normal mode pushes two bytes (R413). -/
theorem test_bsr_normal : gives (runsNormal ⟨0, 0, 0, 0, 0, 0, 0, 0x2000⟩ 0x00 [] [0x5510])
    (fun t => t.regs.er7 == 0x1FFE && t.pc == 0x1012 && memLookup t.mem 0x1FFE == 0x10 &&
      memLookup t.mem 0x1FFF == 0x02) = true := by decide

/-- TRAPA #2 goes through vector 10 and stacks CCR above PC (R462, R520, R530). -/
theorem test_trapa : gives (runs ⟨0, 0, 0, 0, 0, 0, 0, 0x2000⟩ 0x05 [(0x2A, 0x30)] [0x5720])
    (fun t => t.regs.er7 == 0x1FFC && t.pc == 0x3000 && t.ccr == 0x85 && memLookup t.mem 0x1FFC == 0x05 &&
      memLookup t.mem 0x1FFE == 0x10 && memLookup t.mem 0x1FFF == 0x02) = true := by decide

/-- RTE takes CCR and PC back (R460). -/
theorem test_rte : gives (runs ⟨0, 0, 0, 0, 0, 0, 0, 0x1FFC⟩ 0x80 [(0x1FFC, 0x2D), (0x1FFD, 0x12), (0x1FFE, 0x34)] [0x5670])
    (fun t => t.regs.er7 == 0x2000 && t.ccr == 0x2D && t.pc == 0x123400) = true := by decide

/-- SLEEP with SSBY clear and set (R470). -/
theorem test_sleep : gives (runs ⟨0, 0, 0, 0, 0, 0, 0, 0⟩ 0x00 [] [0x0180])
    (fun t => decide (t.proc = .sleep) && t.pc == 0x1002) = true := by decide

theorem test_sleep_standby :
    gives (step { start ⟨0, 0, 0, 0, 0, 0, 0, 0⟩ 0x00 [] [0x0180] with env := { Env.quiet with ssby := true } })
      (fun t => decide (t.proc = .softwareStandby)) = true := by decide

/-- STC.W changes no flag (R450). -/
theorem test_stc_w : gives (runs ⟨0, 0x2001, 0, 0, 0, 0, 0, 0⟩ 0xA5 [] [0x0140, 0x6990])
    (fun t => t.ccr == 0xA5 && t.pc == 0x1004) = true := by decide

/-- A longword store goes high word first to the even address (R61, R63, R68). -/
theorem test_movL_store_odd : gives (runs ⟨0x12345678, 0x2003, 0, 0, 0, 0, 0, 0⟩ 0x00 [] [0x0100, 0x6990])
    (fun t => memLookup t.mem 0x2002 == 0x12 && memLookup t.mem 0x2003 == 0x34 && memLookup t.mem 0x2004 == 0x56 &&
      memLookup t.mem 0x2005 == 0x78) = true := by decide

/-- MOV.B @ER1+,R1L: ER1 is any value, the flags are those of the byte (R192). -/
theorem test_post_increment_into_itself : gives (runs ⟨0, 0x2000, 0, 0, 0, 0, 0, 0⟩ 0x01 [(0x2000, 0x80)] [0x6C19])
    (fun t => t.ccr == 0x09 && t.pc == 0x1002) = true := by decide

/-- MOVFPE without an E clock is the fault of that name (R190). -/
theorem test_movfpe_fault :
    stops (step { start ⟨0, 0, 0, 0, 0, 0, 0, 0⟩ 0x00 [] [0x6A48, 0x2000] with
      params := { Params.default with eClock := false } }) .movfpeWithoutEClock = true := by decide

/-- MOVFPE with an E clock, the next word fetched before the read or after it. -/
theorem test_movfpe : gives (loadPeripheral 4 0x2000 ⟨.er0, .l⟩ (start ⟨0, 0, 0, 0, 0, 0, 0, 0⟩ 0x00 [(0x2000, 0x5A)] []))
    (fun t => t.regs.er0 == 0x5A && t.pc == 0x1004) = true := gives_drawn _ _ _ _ (by decide) (by decide)

/-- MOVTPE stores the byte in either order (R191). -/

theorem test_movtpe : gives (storePeripheral 4 0x2000 0x5A (start ⟨0, 0, 0, 0, 0, 0, 0, 0⟩ 0x00 [] []))
    (fun t => memLookup t.mem 0x2000 == 0x5A && t.pc == 0x1004) = true := gives_drawn _ _ _ _ (by decide) (by decide)

/-- The store of PUSH.L at H'FFFEFC, the two words in either order (R87, R189). -/
theorem test_store_any_order :
    gives (store32AnyOrder (start ⟨0, 0, 0, 0, 0, 0, 0, 0⟩ 0x00 [] []) 0xFFFEFC 0x12345678 .next)
      (fun t => memLookup t.mem 0xFFFEFC == 0x12 && memLookup t.mem 0xFFFEFF == 0x78) = true :=
  gives_drawn _ _ _ _ (by decide) (by decide)

/-- EEPMOV.W moves R4 bytes up (R491, R496). -/
theorem test_eepmov_w : gives (runs ⟨0, 0, 0, 0, 0xAAAA0002, 0x2000, 0x3000, 0⟩ 0x00 [(0x2000, 1), (0x2001, 2)]
      [0x7BD4, 0x598F])
    (fun t => t.regs.er4 == 0xAAAA0000 && t.regs.er5 == 0x2002 && t.regs.er6 == 0x3002 &&
      memLookup t.mem 0x3000 == 1 && memLookup t.mem 0x3001 == 2) = true := by decide

/-- DIVXU by 0 goes on with Z set (R255). -/
theorem test_divide_by_zero : gives (runs ⟨0x1234, 0, 0, 0, 0, 0, 0, 0⟩ 0x00 [] [0x5190])
    (fun t => t.ccr == 0x04 && t.pc == 0x1002) = true := by decide

/-- The words 00 01 are the code of no row (R131). -/
theorem test_undefined_opcode_fault :
    stops (runs ⟨0, 0, 0, 0, 0, 0, 0, 0⟩ 0x00 [] [0x0001]) .undefinedOpcode = true := by decide

/-- NMI is taken though I = 1, a request is not (R510). -/
theorem test_nmi_before_instruction :
    gives (step { start ⟨0, 0, 0, 0, 0, 0, 0, 0x2000⟩ 0x80 [(0x1D, 0x40)] [0x0000] with
        env := { Env.quiet with nmi := some 7, irq := some ⟨1, 12⟩ } })
      (fun t => t.pc == 0x400000 && t.regs.er7 == 0x1FFC && t.env.irq == some ⟨1, 12⟩ && t.env.nmi == none) = true := by
  decide

theorem test_masked_request_waits :
    gives (step { start ⟨0, 0, 0, 0, 0, 0, 0, 0x2000⟩ 0x80 [] [0x0000] with
        env := { Env.quiet with irq := some ⟨1, 12⟩ } })
      (fun t => t.pc == 0x1002) = true := by decide

/-- RES Low from program execution (R561), then reset exception handling from the vector (R562). -/
theorem test_reset :
    gives (step { start ⟨0, 0, 0, 0, 0, 0, 0, 0⟩ 0x05 [] [0x0000] with env := { Env.quiet with resLow := true } })
      (fun t => decide (t.proc = .reset) && t.ccr == 0x85 && t.pc == 0x1000) = true := by decide

theorem test_reset_handling :
    gives (step { State.reset with proc := .reset, mem := [(1, 0x12), (2, 0x34)] })
      (fun t => t.pc == 0x123400 && t.intInhibit && decide (t.proc = .run)) = true := by decide

/-! ### Between the bus accesses of a step, and devices -/

/-- `start` with these slots in the step to come. -/
noncomputable def startWith (regs : RegFile) (cells : List Host.Cell) (ws : List Word) (slots : List BusSlot) : State :=
  { start regs 0 cells ws with inputs := [{ Env.quiet with slots := slots }] }

/-- BSET #0,@ER1: another master clears the byte between the read and the write, and its write is lost (R90). -/
theorem test_lost_update :
    gives (step (startWith ⟨0, 0x2000, 0, 0, 0, 0, 0, 0⟩ [(0x2000, 0xF0)] [0x7D10, 0x7000]
        [⟨[], none⟩, ⟨[], none⟩, ⟨[.writeByte 0x2000 0x00], none⟩]))
      (fun t => memLookup t.mem 0x2000 == 0xF1 && t.pc == 0x1004) = true := by decide

/-- 0100 0000 is no code; another master makes the second word 6990 before it is fetched, and MOV.L ER0,@ER1 runs (R125). -/
theorem test_code_completed_before_fetch :
    stops (step (startWith ⟨0x12345678, 0x2000, 0, 0, 0, 0, 0, 0⟩ [] [0x0100, 0x0000] [])) .undefinedOpcode = true ∧
    gives (step (startWith ⟨0x12345678, 0x2000, 0, 0, 0, 0, 0, 0⟩ [] [0x0100, 0x0000]
        [⟨[.writeWord 0x1002 0x6990], none⟩]))
      (fun t => memLookup t.mem 0x2001 == 0x34 && t.pc == 0x1004) = true := by decide

/-- MOV.L ER0,@ER1: RES Low before the write of the second word (R555). -/
theorem test_reset_cuts_store :
    gives (step (startWith ⟨0x12345678, 0x2000, 0, 0, 0, 0, 0, 0⟩ [] [0x0100, 0x6990]
        [⟨[], none⟩, ⟨[], none⟩, ⟨[], none⟩, ⟨[], some .res⟩]))
      (fun t => memLookup t.mem 0x2001 == 0x34 && memLookup t.mem 0x2003 == 0 && decide (t.proc = .reset) &&
        t.ccr == 0x80) = true := by decide

/-- MOV.W R0,@ER1 and MOV.B @ER1,R0H at a device: one access each (R71). -/
theorem test_device_log :
    gives (exec (.movWRsAtERd ⟨.er0, .r⟩ .er1) { start ⟨0x1234, 0x2000, 0, 0, 0, 0, 0, 0⟩ 0 [] [] with
        params := { Params.default with map := [⟨0x2000, 2, .device⟩] } })
      (fun t => t.devLog == [.writeWord 0x2000 0x1234]) = true ∧
    gives (exec (.movBAtERsRd .er1 ⟨.er0, .h⟩) { start ⟨0x1234, 0x2000, 0, 0, 0, 0, 0, 0⟩ 0 [] [] with
        params := { Params.default with map := [⟨0x2000, 2, .device⟩] } })
      (fun t => t.devLog == [.readByte 0x2000]) = true := by decide

/-- The discarded fetch after BRA, and the dummy reads of EEPMOV.B with count 0, stop where the map faults (R75, R494). -/
theorem test_discarded_reads_fault :
    stops (exec (.braD8 0x10) { start ⟨0, 0, 0, 0, 0, 0, 0, 0⟩ 0 [] [] with
        params := { Params.default with map := [⟨0x1002, 2, .unmapped .fault⟩] } }) (.unmappedAccess 0x1002) = true ∧
    stops (exec .eepmovB { start ⟨0, 0, 0, 0, 0, 0x2000, 0x3000, 0⟩ 0 [] [] with
        params := { Params.default with map := [⟨0x3000, 2, .unmapped .fault⟩] } }) (.unmappedAccess 0x3000) = true := by
  decide

/-- A product with a 1-Mbyte space ignores the upper four address bits (R66). -/
theorem test_ignored_bits :
    gives (exec (.movBAbs24Rd 0xF12345 ⟨.er0, .l⟩) { start ⟨0, 0, 0, 0, 0, 0, 0, 0⟩ 0 [(0x12345, 0x5A)] [] with
        params := { Params.default with ignoredBits := 4 } }) (fun t => t.regs.er0 == 0x5A) = true := by decide

/-- An NMI pending as EEPMOV.W begins cuts it after a byte and is pending in the next step (R493). -/
theorem test_eepmov_keeps_nmi :
    gives (exec .eepmovW { start ⟨0, 0, 0, 0, 3, 0x2000, 0x3000, 0⟩ 0 [(0x2000, 1)] [] with
        env := { Env.quiet with nmi := some 7 }, inputs := [Env.quiet] })
      (fun t => t.regs.er4 == 2 && memLookup t.mem 0x3000 == 1 && t.sample.env.nmi == some 7) = true := by decide

/-! ### States that meet the hypotheses of the statements

`machine` has RAM everywhere; its registers point at the ends of the address space. `machineNormal` is the same in normal
mode; `mapped` has one region of each kind. -/

/-- Advanced mode, PC = H'FFFFFE, ER0 all ones. -/
def machine : State :=
  { State.reset with regs := ⟨0xFFFFFFFF, 0x00FFFFFF, 0x01FF, 0, 2, 0x2000, 0x3000, 0x00000002⟩, pc := 0xFFFFFE,
                     intInhibit := false }

/-- Normal mode, PC = H'FFFE. -/
def machineNormal : State := { machine with pc := 0xFFFE, params := { Params.default with mode := .normal } }

/-- A region of each kind. -/
def mapped : State :=
  { machine with params := { Params.default with map := [⟨0x2000, 0x10, .device⟩, ⟨0x3000, 1, .rom .fault⟩,
      ⟨0x3001, 1, .rom .complete⟩, ⟨0x4000, 2, .unmapped .fault⟩, ⟨0x4002, 2, .unmapped .complete⟩] } }

theorem machine_reads : machine.readsComplete := fun _ => rfl

theorem machine_writes : machine.writesComplete := fun _ => rfl

theorem machineNormal_reads : machineNormal.readsComplete := fun _ => rfl

theorem machineNormal_writes : machineNormal.writesComplete := fun _ => rfl

theorem machine_inv : machine.Inv := ⟨by decide, by decide, by decide, by decide⟩

theorem machineNormal_inv : machineNormal.Inv := ⟨by decide, by decide, by decide, by decide⟩

theorem test_witness_DecodeAfterEncode :
    (Instr.movWPostERsRd .er6 ⟨.er7, .e⟩).wellFormed = true ∧ (Instr.movLERsPreERd .er7 .er6).wellFormed = true ∧
      Instr.nop.wellFormed = true := by decide

theorem test_witness_EncodeAfterDecode :
    decode [0x5470, 0xFFFF] = some .rts ∧ decode [0x0100, 0x6D7F] = none ∧
      decode [0x0100, 0x6D77] = some (.popLERn .er7) := by decide

/-- The words that the high byte alone does not tell, and one of every other prefix. -/
theorem test_witness_PrefixFollowers :
    ([[0x01F0, 0x6408], [0x0140, 0x6981], [0x7C10, 0x6301], [0x7810, 0x6A10], [0x7810, 0x6A20, 0x0100], [0x0100, 0x6A00],
      [0x01C0, 0x5100], [0x01D0, 0x5308], [0x7B5C, 0x598E], [0x7BD4], [0x7D18, 0x7000], [0x7E00, 0x7078],
      [0x7FFF, 0x7000, 0x0000], [0x7FFF, 0x6301]] : List (List Word)).map (fun ws =>
        (hasPrefix (ws.flatMap nibs16), listedWithPrefix (ws.flatMap nibs16))) =
      [(true, false), (true, false), (true, false), (true, false), (true, false), (true, false), (true, false),
        (true, false), (true, false), (true, false), (true, false), (true, false), (true, true), (true, false)] := by
  decide

/-- One word with PC at the top of the address space, and five words. -/
theorem test_witness_StepRunsDecoded :
    machine.RunsNext ∧ decode machine.sample.instructionWords = some .nop ∧
      (∀ k, k < Instr.nop.length / 2 - 1 → machine.sample.canRead16 (machine.sample.nextPc (BitVec.ofNat 24 (2 * (k + 1))))) ∧
      (start machine.regs 0 [] [0x0140, 0x7820, 0x6B20, 0x00FF, 0xFFFE]).RunsNext ∧
      decode (start machine.regs 0 [] [0x0140, 0x7820, 0x6B20, 0x00FF, 0xFFFE]).sample.instructionWords =
        some (.ldcD24ERsCcr 0xFFFFFE .er2) := by
  refine ⟨⟨by decide, by decide, by decide, by decide, by decide, by decide⟩, by decide, by decide,
    ⟨by decide, by decide, by decide, by decide, by decide, by decide⟩, by decide⟩

/-- An undefined first word; a prefix with an undefined second word. -/
theorem test_witness_UndefinedCodeFaults :
    { machine with pf := 0x0001 }.RunsNext ∧ decode { machine with pf := 0x0001 }.sample.instructionWords = none ∧
      codeLength ({ machine with pf := 0x0001 }.sample.instructionWords.flatMap nibs16) = 2 ∧
      { machine with pf := 0x0100 }.RunsNext ∧ decode { machine with pf := 0x0100 }.sample.instructionWords = none ∧
      codeLength ({ machine with pf := 0x0100 }.sample.instructionWords.flatMap nibs16) = 4 ∧
      { machine with pf := 0x0100 }.sample.canRead16 ({ machine with pf := 0x0100 }.sample.nextPc (BitVec.ofNat 24 2)) :=
  ⟨⟨by decide, by decide, by decide, by decide, by decide, by decide⟩, by decide, by decide,
    ⟨by decide, by decide, by decide, by decide, by decide, by decide⟩, by decide, by decide, rfl, rfl⟩

theorem test_witness_MemoryPrimitives :
    machine.undisturbed ∧ machine.params.map = [] ∧ machineNormal.params.map = [] := by decide

theorem test_witness_OddAddressesRoundDown :
    machine.undisturbed ∧ machine.params.mode = .advanced ∧ machineNormal.params.mode = .normal ∧ machine.canRead8 0xFFFFFF ∧
      machineNormal.canRead8 1 := by decide

theorem test_witness_EffectiveAddressFormulas :
    machine.params.mode = .advanced ∧ machineNormal.params.mode = .normal := by decide

theorem test_witness_RegionAccesses :
    mapped.undisturbed ∧ kindAt mapped.params.map (mapped.phys 0x4001) = .unmapped .fault ∧
      kindAt mapped.params.map (mapped.phys 0x3000) = .rom .fault ∧
      kindAt mapped.params.map (mapped.phys 0x3001) = .rom .complete ∧
      kindAt mapped.params.map (mapped.phys 0x4002) = .unmapped .complete ∧
      kindAt mapped.params.map (mapped.phys 0x4004) = .ram ∧ kindAt mapped.params.map (mapped.phys 0x200F) = .device := by
  decide

/-- The even and the odd byte of the next word, after instructions of 2, 4, 8 and 10 bytes and those of each other clause. -/
theorem test_witness_UnreadableNextWordFaults :
    let before (n : Addr) : State := { mapped with pc := 0x4000 - n }
    let odd : State :=
      { machine with pc := 0x1000, params := { Params.default with map := [⟨0x1005, 1, .unmapped .fault⟩] } }
    (before 2).undisturbed ∧ (before 2).unreadableWord ((before 2).nextPc (BitVec.ofNat 24 Instr.nop.length)) (.unmappedAccess 0x4000) ∧
      fetchesNextFirst .nop = true ∧
      (before 8).unreadableWord ((before 8).nextPc (BitVec.ofNat 24 (Instr.movBD24ERsRd 0 .er0 ⟨.er0, .l⟩).length))
        (.unmappedAccess 0x4000) ∧ fetchesNextFirst (.movBD24ERsRd 0 .er0 ⟨.er0, .l⟩) = true ∧
      (before 10).unreadableWord ((before 10).nextPc (BitVec.ofNat 24 (Instr.ldcD24ERsCcr 0 .er0).length))
        (.unmappedAccess 0x4000) ∧ fetchesNextFirst (.ldcD24ERsCcr 0 .er0) = true ∧
      odd.unreadableWord (odd.nextPc (BitVec.ofNat 24 (Instr.bsetImm3Abs8 7 0xFF).length)) (.unmappedAccess 0x1005) ∧
      bitOperand odd (.bsetImm3Abs8 7 0xFF) = some (eaAbs8 0xFF) ∧ odd.canRead8 (eaAbs8 0xFF) ∧
      odd.unreadableWord (odd.nextPc (BitVec.ofNat 24 Instr.eepmovB.length)) (.unmappedAccess 0x1005) ∧
      odd.canTransfer (odd.reg8 ⟨.er4, .l⟩).toNat ∧ odd.canTransfer (odd.reg16 ⟨.er4, .r⟩).toNat ∧
      odd.unreadableWord (odd.nextPc (BitVec.ofNat 24 Instr.eepmovW.length)) (.unmappedAccess 0x1005) ∧
      odd.unreadableWord (odd.nextPc (BitVec.ofNat 24 (Instr.movfpeAbs16Rd 0xFFFF ⟨.er0, .l⟩).length)) (.unmappedAccess 0x1005) ∧
      odd.params.eClock = true ∧ odd.canRead8 (eaAbs16 0xFFFF) ∧ odd.canWrite8 (eaAbs16 0xFFFF) := by
  refine ⟨by decide, .inl (by decide), by decide, .inl (by decide), by decide, .inl (by decide), by decide,
    .inr (by decide), by decide, by decide, .inr (by decide), ⟨by decide, by decide, ?_⟩, ⟨by decide, by decide, ?_⟩,
    .inr (by decide), .inr (by decide), by decide, by decide, by decide⟩ <;> decide

theorem test_witness_RegisterViews : 7 < 8 ∧ 15 < 16 ∧ ERn.er7 ≠ ERn.er0 := by decide

theorem test_witness_MoveToRegister :
    machine.undisturbed ∧ machine.canFetch 2 ∧ machine.canFetch 4 ∧ machine.canFetch 6 := by decide

theorem test_witness_LoadFromMemory :
    machine.undisturbed ∧ machine.canFetch 2 ∧ machine.canFetch 4 ∧ machine.canFetch 6 ∧ machine.canFetch 8 ∧ machine.canFetch 10 ∧
      machine.canRead8 (machine.eaAt .er0) ∧ machine.canRead16 (machine.eaAt .er0) ∧
      machine.canRead32 (machine.eaAt .er0) ∧ machine.canRead8 (eaAbs8 0xFF) ∧ machine.canRead8 (eaAbs16 0x8000) ∧
      machine.params.eClock = true := by decide

/-- With the destination apart from ERs and a part of it. -/
theorem test_witness_LoadPostIncrement :
    machine.undisturbed ∧ machine.canFetch 2 ∧ machine.canFetch 4 ∧ machine.canRead8 (machine.eaAt .er0) ∧
      machine.canRead16 (machine.eaAt .er7) ∧ machine.canRead32 (machine.eaAt .er0) ∧
      (⟨.er0, .h⟩ : R8).n = .er0 ∧ (⟨.er1, .l⟩ : R8).n ≠ .er0 := by decide

theorem test_witness_StoreToMemory :
    machine.undisturbed ∧ machine.canFetch 2 ∧ machine.canFetch 4 ∧ machine.canFetch 6 ∧ machine.canFetch 8 ∧ machine.canFetch 10 ∧
      machine.canWrite8 (machine.eaAt .er0) ∧ machine.canWrite16 (machine.eaAt .er0) ∧
      machine.canWrite32 (machine.eaAt .er0) ∧ machine.canWrite8 (eaAbs8 0x00) ∧ machine.canWrite8 0xFFFFFF := by decide

theorem test_witness_StorePreDecrement :
    machine.undisturbed ∧ machine.canFetch 2 ∧ machine.canFetch 4 ∧ machine.canWrite8 (low24 (machine.er .er3 - 1)) ∧
      machine.canWrite16 (low24 (machine.er .er7 - 2)) ∧ machine.canWrite32 (low24 (machine.er .er7 - 4)) := by decide

theorem test_witness_PeripheralTransfers :
    machine.undisturbed ∧ machine.params.eClock = true ∧ machine.canFetch 4 ∧ machine.canWrite8 (eaAbs16 0xFFFF) ∧
      { machine with params := { Params.default with eClock := false } }.params.eClock = false := by decide

theorem test_witness_AddSubtractCompare :
    machine.undisturbed ∧ machine.canFetch 2 ∧ machine.canFetch 4 ∧ machine.canFetch 6 := by decide

theorem test_witness_CarryAndAddressArithmetic :
    machine.undisturbed ∧ machine.canFetch 2 ∧ machineNormal.canFetch 2 := by decide

theorem test_witness_IncrementDecrementNegate :
    machine.undisturbed ∧ machine.canFetch 2 ∧ machineNormal.canFetch 2 := by decide

/-- A machine with this CCR and R0L. -/
def decimal (ccr d : Byte) : State := { machine with ccr := ccr, regs := { machine.regs with er0 := d.zeroExtend 32 } }

/-- The digits and flags of a `decimal` machine. -/
def digits (ccr d : Byte) : Bool × Bool × Nat × Nat :=
  ((decimal ccr d).flag .c, (decimal ccr d).flag .h, ((decimal ccr d).reg8 ⟨.er0, .l⟩).toNat / 16,
    ((decimal ccr d).reg8 ⟨.er0, .l⟩).toNat % 16)

/-- Each row of the tables of DAA and DAS at the ends of its ranges. -/
theorem test_witness_DecimalAdjust :
    (decimal 0 0).undisturbed ∧ (decimal 0 0).canFetch 2 ∧
      [digits 0x00 0x99, digits 0x00 0x8F, digits 0x20 0x93, digits 0x00 0xA9, digits 0x00 0x9A, digits 0x20 0xF3,
        digits 0x01 0x29, digits 0x01 0x2F, digits 0x21 0x33, digits 0x20 0x86, digits 0x01 0x79, digits 0x21 0x66] =
      [(false, false, 9, 9), (false, false, 8, 15), (false, true, 9, 3), (false, false, 10, 9), (false, false, 9, 10),
        (false, true, 15, 3), (true, false, 2, 9), (true, false, 2, 15), (true, true, 3, 3), (false, true, 8, 6),
        (true, false, 7, 9), (true, true, 6, 6)] := by decide

/-- 99 + 99 and 0 - 99. -/
theorem test_witness_DecimalAddition :
    (decimal 0x01 0x99).undisturbed ∧ (decimal 0x01 0x99).readsComplete ∧
      ((decimal 0x01 0x99).reg8 ⟨.er0, .l⟩).toNat = 16 * (99 / 10) + 99 % 10 ∧
      ((decimal 0x01 0x00).reg8 ⟨.er0, .l⟩).toNat = 16 * (0 / 10) + 0 % 10 ∧
      ((decimal 0x01 0x99).reg8 ⟨.er3, .l⟩).toNat = 16 * (0 / 10) + 0 % 10 :=
  ⟨rfl, fun _ => rfl, by decide, by decide, by decide⟩

theorem test_witness_ExtendRegister :
    machine.undisturbed ∧ machine.canFetch 2 ∧ machineNormal.canFetch 2 := by decide

theorem test_witness_MultiplyExact :
    machine.undisturbed ∧ machine.canFetch 2 ∧ machine.canFetch 4 := by decide

/-- H'01FF / 2 = H'FF; H'FFFFFFFF / H'FFFF does not fit, H'01FF / 2 as words does; -1 / 1. -/
theorem test_witness_DivideExact :
    machine.undisturbed ∧ machine.canFetch 2 ∧ machine.canFetch 4 ∧ (machine.reg8 ⟨.er4, .l⟩).toNat ≠ 0 ∧
      (machine.reg16 ⟨.er2, .r⟩).toNat / (machine.reg8 ⟨.er4, .l⟩).toNat < 2 ^ 8 ∧
      (machine.er .er2).toNat / (machine.reg16 ⟨.er4, .r⟩).toNat < 2 ^ 16 ∧
      -2 ^ 7 ≤ (machine.reg16 ⟨.er0, .r⟩).toInt.tdiv (machine.reg8 ⟨.er4, .l⟩).toInt ∧
      (machine.reg16 ⟨.er0, .r⟩).toInt.tdiv (machine.reg8 ⟨.er4, .l⟩).toInt < 2 ^ 7 ∧
      -2 ^ 15 ≤ (machine.er .er0).toInt.tdiv (machine.reg16 ⟨.er4, .r⟩).toInt ∧
      (machine.er .er0).toInt.tdiv (machine.reg16 ⟨.er4, .r⟩).toInt < 2 ^ 15 := by decide

theorem test_witness_DivideNeverTraps :
    machine.undisturbed ∧ machine.canFetch 2 ∧ machine.canFetch 4 ∧ (machine.reg8 ⟨.er3, .l⟩).toNat = 0 := by decide

theorem test_witness_LogicBitwise :
    machine.undisturbed ∧ machine.canFetch 2 ∧ machine.canFetch 4 ∧ machine.canFetch 6 := by decide

theorem test_witness_ShiftRotateTable :
    machine.undisturbed ∧ machine.canFetch 2 ∧ machineNormal.canFetch 2 := by decide

theorem test_witness_BitRewrite :
    machine.undisturbed ∧ machine.canFetch 2 ∧ machine.canFetch 4 ∧ machine.canRead8 (machine.eaAt .er0) ∧
      machine.canWrite8 (machine.eaAt .er0) ∧ machine.canRead8 (eaAbs8 0xFF) ∧ machine.canWrite8 (eaAbs8 0x00) := by decide

theorem test_witness_BitTestAndCarry :
    machine.undisturbed ∧ machine.canFetch 2 ∧ machine.canFetch 4 ∧ machine.canRead8 (machine.eaAt .er0) ∧ machine.canRead8 (eaAbs8 0xFF) := by
  decide

/-- Taken and not, forward and back over the ends of the address space. -/
theorem test_witness_ConditionalBranches :
    machine.undisturbed ∧ machine.canFetch 2 ∧
      machine.canRead16 (machine.loadPc (machine.nextPc 2 + (0x80#8).signExtend 24)) ∧ machineNormal.undisturbed ∧
      machineNormal.canRead16 (machineNormal.loadPc (machineNormal.nextPc 4 + (0x7FFF#16).signExtend 24)) ∧
      machineNormal.canFetch 4 := by decide

theorem test_witness_ConditionsAfterCompare :
    machine.undisturbed ∧ (∃ t, exec (.cmpBImm8Rd 0x80 ⟨.er0, .l⟩) machine = .next t) ∧ (∃ t, exec (.cmpBRsRd ⟨.er0, .h⟩ ⟨.er3, .l⟩) machine = .next t) ∧
      (∃ t, exec (.cmpWImm16Rd 0x8000 ⟨.er0, .e⟩) machine = .next t) ∧
      (∃ t, exec (.cmpWRsRd ⟨.er0, .r⟩ ⟨.er3, .r⟩) machine = .next t) ∧
      (∃ t, exec (.cmpLImm32ERd 0x80000000 .er0) machine = .next t) ∧ (∃ t, exec (.cmpLERsERd .er0 .er3) machine = .next t) ∧
      (0x8F#8 &&& 0x0F = 0x0F#8 &&& 0x0F) :=
  ⟨rfl, ⟨_, rfl⟩, ⟨_, rfl⟩, ⟨_, rfl⟩, ⟨_, rfl⟩, ⟨_, rfl⟩, ⟨_, rfl⟩, by decide⟩

theorem machine_canReadPointer (a : Addr) : machine.canReadPointer a := ⟨⟨rfl, rfl⟩, rfl, rfl⟩

theorem machineNormal_canReadPointer (a : Addr) : machineNormal.canReadPointer a := ⟨rfl, rfl⟩

theorem test_witness_Jumps :
    machine.undisturbed ∧ machine.canFetch 2 ∧ machine.canRead16 (machine.loadPc (machine.eaAt .er0)) ∧
      machine.canRead16 (machine.loadPc 0xFFFFFF) ∧ machine.canReadPointer ((0xFF#8).zeroExtend 24) ∧
      machine.canRead16 (machine.loadPc (machine.sawNext.pointerAt ((0xFF#8).zeroExtend 24))) ∧
      machineNormal.canReadPointer ((0xFF#8).zeroExtend 24) :=
  ⟨rfl, by decide, by decide, by decide, machine_canReadPointer _, ⟨rfl, rfl⟩, machineNormal_canReadPointer _⟩

/-- ER7 = 2, so that the frame lies across the end of the address space. -/
theorem test_witness_SubroutineCalls :
    machine.undisturbed ∧ machine.canFetch 2 ∧ machine.canRead16 (machine.loadPc 0xFFFFFF) ∧ machine.canPush ∧
      machineNormal.canPush ∧ machine.canReadPointer ((0xFF#8).zeroExtend 24) ∧
      machine.canRead16 (machine.loadPc (machine.sawNext.pointerAt ((0xFF#8).zeroExtend 24))) :=
  ⟨rfl, by decide, by decide, ⟨⟨rfl, rfl⟩, rfl, rfl⟩, ⟨rfl, rfl⟩, machine_canReadPointer _, ⟨rfl, rfl⟩⟩

theorem test_witness_SubroutineReturn :
    machine.undisturbed ∧ machine.readsComplete ∧ machineNormal.readsComplete :=
  ⟨rfl, machine_reads, machineNormal_reads⟩

theorem test_witness_CallThenReturn :
    machine.undisturbed ∧ machine.params.map = [] ∧ machine.Inv ∧ machineNormal.Inv ∧ (∃ t, exec (.bsrD8 0x80) machine = .next t) ∧
      (∃ t, exec (.bsrD16 0x7FFF) machineNormal = .next t) ∧ (∃ t, exec (.jsrAtERn .er0) machine = .next t) ∧
      (∃ t, exec (.jsrAbs24 0xFFFFFF) machineNormal = .next t) ∧ ∃ t, exec (.jsrInd8 0xFF) machine = .next t :=
  ⟨rfl, rfl, machine_inv, machineNormal_inv, exists_next _ (by decide), exists_next _ (by decide), exists_next _ (by decide),
    exists_next _ (by decide), exists_next _ (by decide)⟩

theorem test_witness_LoadCcr :
    machine.undisturbed ∧ machine.canFetch 2 ∧ machine.canFetch 4 ∧ machine.canFetch 6 ∧ machine.canFetch 8 ∧ machine.canFetch 10 ∧
      machine.canRead16 (machine.eaAt .er0) ∧ machine.canRead16 0xFFFFFF := by decide

theorem test_witness_StoreCcr :
    machine.undisturbed ∧ machine.canFetch 2 ∧ machine.canFetch 4 ∧ machine.canFetch 6 ∧ machine.canFetch 8 ∧ machine.canFetch 10 ∧
      machine.canWrite16 (machine.eaAt .er0) ∧ machine.canWrite16 (low24 (machine.er .er3 - 2)) := by decide

theorem test_witness_TrapEntry :
    machine.undisturbed ∧ machine.readsComplete ∧ machine.canEnter ∧ machineNormal.readsComplete ∧ machineNormal.canEnter :=
  ⟨rfl, machine_reads, ⟨⟨rfl, rfl⟩, rfl, rfl⟩, machineNormal_reads, ⟨rfl, rfl⟩, rfl, rfl⟩

theorem test_witness_ReturnFromException :
    machine.undisturbed ∧ machine.readsComplete ∧ machineNormal.readsComplete :=
  ⟨rfl, machine_reads, machineNormal_reads⟩

theorem test_witness_EntryThenReturn :
    machine.undisturbed ∧ machine.params.map = [] ∧ (machineNormal.params.mode = .normal → (0x00FFFF#24).toNat < 2 ^ 16) ∧
      (∃ t, exceptionEntry machine 0xFFFFFF 11 = .next t) ∧ ∃ t, exceptionEntry machineNormal 0x00FFFF 63 = .next t :=
  ⟨rfl, rfl, by decide, exists_next _ (by decide), exists_next _ (by decide)⟩

theorem test_witness_SleepCompletes : machine.undisturbed ∧ machine.canFetch 2 := by decide

/-- Asleep with these inputs. -/
def asleep (ccr : Byte) (env : Env) : State := { machine with proc := .softwareStandby, ccr := ccr, env := env }

/-- NMI with I = 1; a request with I = 0; the same with I = 1; none. -/
theorem test_witness_SleepAndWake :
    (asleep 0x80 { Env.quiet with nmi := some 7 }).sample.env = { Env.quiet with nmi := some 7 } ∧
      (asleep 0 { Env.quiet with irq := some ⟨1, 12⟩ }).sample.env = { Env.quiet with irq := some ⟨1, 12⟩ } ∧
      (asleep 0 { Env.quiet with irq := some ⟨1, 12⟩ }).sample.masked ⟨1, 12⟩ = false ∧
      (asleep 0x80 { Env.quiet with irq := some ⟨1, 12⟩ }).sample.env = { Env.quiet with irq := some ⟨1, 12⟩ } ∧
      (asleep 0x80 { Env.quiet with irq := some ⟨1, 12⟩ }).sample.masked ⟨1, 12⟩ = true ∧
      (asleep 0x80 Env.quiet).sample.env = Env.quiet ∧ Env.quiet.stbyLow = false ∧ Env.quiet.resLow = false ∧
      Env.quiet.nmi = none ∧ Env.quiet.irq = none ∧ Env.quiet.slots = [] ∧ (asleep 0 Env.quiet).proc = .softwareStandby ∧
      (asleep 0 Env.quiet).readsComplete ∧ (asleep 0 Env.quiet).canEnter :=
  ⟨rfl, rfl, by decide, rfl, by decide, rfl, rfl, rfl, rfl, rfl, rfl, rfl, fun _ => rfl, ⟨rfl, rfl⟩, rfl, rfl⟩

/-- NMI with I = 1; another request with I = 0. -/
theorem test_witness_InterruptAcceptance :
    machine.sample.undisturbed ∧ { machine with env := { Env.quiet with nmi := some 7 } }.sample.env.nmi = some 7 ∧
      { machine with env := { Env.quiet with nmi := some 7 } }.sample.env.stbyLow = false ∧
      { machine with env := { Env.quiet with nmi := some 7 } }.sample.env.resLow = false ∧
      { machine with env := { Env.quiet with nmi := some 7 } }.sample.env.busRequest = false ∧
      { machine with ccr := 0, env := { Env.quiet with irq := some ⟨1, 12⟩ } }.sample.env.nmi = none ∧
      { machine with ccr := 0, env := { Env.quiet with irq := some ⟨1, 12⟩ } }.sample.env.irq = some ⟨1, 12⟩ ∧
      { machine with ccr := 0, env := { Env.quiet with irq := some ⟨1, 12⟩ } }.sample.masked ⟨1, 12⟩ = false ∧
      machine.proc = .run ∧ machine.intInhibit = false ∧ machine.readsComplete ∧ machine.canEnter :=
  ⟨by decide, by decide, by decide, by decide, by decide, by decide, by decide, by decide, by decide, by decide, machine_reads,
    ⟨rfl, rfl⟩, rfl, rfl⟩

/-- No mask bit; a second row that decides where the first does not match; rows of which none matches; no row. -/
theorem test_witness_InterruptMasking :
    let masks (rows : List UiMaskRow) : State := { machine with
      env := { Env.quiet with uiIsMask := true, irq := some ⟨1, 12⟩ }, params := { Params.default with uiMask := rows } }
    let other : UiMaskRow := ⟨2, true, false, true⟩
    let row : UiMaskRow := ⟨1, true, false, false⟩
    machine.env.uiIsMask = false ∧ (masks [other, row, row]).env.uiIsMask = true ∧
      (masks [other, row, row]).params.uiMask = [other] ++ row :: [row] ∧
      (∀ x ∈ [other], x.src ≠ 1 ∨ x.i ≠ (masks [other, row, row]).flag .i ∨ x.ui ≠ (masks [other, row, row]).flag .ui) ∧
      row.src = 1 ∧ row.i = (masks [other, row, row]).flag .i ∧ row.ui = (masks [other, row, row]).flag .ui ∧
      (∀ x ∈ (masks [other]).params.uiMask, x.src ≠ 1 ∨ x.i ≠ (masks [other]).flag .i ∨ x.ui ≠ (masks [other]).flag .ui) ∧
      (masks []).env.nmi = none ∧ (masks []).masked ⟨1, 12⟩ = true := by decide

theorem test_witness_InhibitBit :
    machine.undisturbed ∧ (∃ t, exec (.ldcImm8Ccr 0x00) machine = .next t) ∧ (∃ t, exec .rte machine = .next t) ∧
      (∃ t, resetException machine = .next t) ∧ (∃ t, exceptionEntry machine 0 0 = .next t) ∧
      machine.sample.undisturbed ∧ gives (step { machine with pf := 0x0700 }) (fun t => t.intInhibit) = true ∧
      machine.RunsNext ∧ decode machine.sample.instructionWords = some .nop ∧ ∃ t, step machine = .next t :=
  ⟨rfl, ⟨_, rfl⟩, exists_next _ (by decide), exists_next _ (by decide), exists_next _ (by decide), rfl, by decide,
    ⟨by decide, by decide, by decide, by decide, by decide, by decide⟩, by decide, exists_next _ (by decide)⟩

theorem test_witness_NoInterruptAfterInhibit :
    { machine with intInhibit := true, env := { Env.quiet with nmi := some 7 } }.RunsNext ∧
      decode { machine with intInhibit := true, env := { Env.quiet with nmi := some 7 } }.sample.instructionWords = some .nop ∧
      ∃ t, step { machine with intInhibit := true, env := { Env.quiet with nmi := some 7 } } = .next t :=
  ⟨⟨by decide, by decide, by decide, by decide, by decide, by decide⟩, by decide, exists_next _ (by decide)⟩

theorem test_witness_UntouchedByInstructions :
    (∃ t, exec .nop machine = .next t) ∧ machine.undisturbed ∧ Instr.nop ≠ .sleep ∧ (∀ n, Instr.nop ≠ .trapaImm2 n) ∧ loadsCcr .nop = false ∧
      Instr.nop ≠ .rte :=
  ⟨⟨_, rfl⟩, rfl, by decide, by decide, rfl, by decide⟩

/-- Two bytes from H'2000 to H'3000; no byte; from H'2000 to H'2001. -/
theorem test_witness_BlockTransferBytes :
    machine.undisturbed ∧ machine.params.map = [] ∧ (machine.reg8 ⟨.er4, .l⟩).toNat = 2 ∧ BlockApart machine 2 ∧
      BlockApart machine 0 ∧ machine.env.nmi = none ∧ machine.env.nmiDuring = none ∧
      { machine with regs := { machine.regs with er6 := 0x2001 } }.er .er6 =
        { machine with regs := { machine.regs with er6 := 0x2001 } }.er .er5 + 1 := by
  refine ⟨rfl, rfl, by decide, ?_, fun i j hi => absurd hi (Nat.not_lt_zero i), rfl, rfl, by decide⟩
  intro i j hi hj
  obtain rfl | rfl : i = 0 ∨ i = 1 := by omega
  all_goals obtain rfl | rfl : j = 0 ∨ j = 1 := by omega
  all_goals decide

theorem test_witness_BlockTransferRegisters :
    machine.undisturbed ∧ machine.readsComplete ∧ machine.writesComplete ∧ machine.env.nmi = none ∧ machine.env.nmiDuring = none ∧
      { machine with regs := { machine.regs with er4 := 0xFFFF0000 } }.reg8 ⟨.er4, .l⟩ = 0 ∧
      { machine with regs := { machine.regs with er4 := 0xFFFF0000 } }.reg16 ⟨.er4, .r⟩ = 0 :=
  ⟨rfl, machine_reads, machine_writes, rfl, rfl, by decide, by decide⟩

/-- Of two bytes: an NMI pending as the transfer begins, and one that arrives at once. -/
theorem test_witness_BlockTransferCutByNmi :
    machine.undisturbed ∧ machine.readsComplete ∧ machine.writesComplete ∧ (machine.reg16 ⟨.er4, .r⟩).toNat = 2 ∧
      { machine with env := { Env.quiet with nmi := some 7 } }.env.nmi.isSome = true ∧ 1 = min 1 2 ∧
      { machine with env := { Env.quiet with nmiDuring := some ⟨0, 7⟩ } }.env.nmi = none ∧
      { machine with env := { Env.quiet with nmiDuring := some ⟨0, 7⟩ } }.env.nmiDuring = some ⟨0, 7⟩ ∧
      1 = min (max (⟨0, 7⟩ : NmiArrival).afterBytes 1) 2 ∧ { machine with params := Params.default }.params.map = [] :=
  ⟨rfl, machine_reads, machine_writes, by decide, rfl, by decide, rfl, by decide, by decide, rfl⟩

theorem test_witness_AccessInterleaving : machine.params.map = [] ∧ machineNormal.params.map = [] := by decide

theorem test_witness_ResetPins :
    { machine with env := { Env.quiet with stbyLow := true } }.sample.env.stbyLow = true ∧
      { machine with env := { Env.quiet with resLow := true } }.sample.env.stbyLow = false ∧
      { machine with env := { Env.quiet with resLow := true } }.sample.env.resLow = true ∧
      machine.proc ≠ .hardwareStandby ∧ machine.sample.env.stbyLow = false ∧
      { machine with proc := .hardwareStandby }.proc = .hardwareStandby := by decide

/-- Each pin, at the first access and, for the store, at the third. -/
theorem test_witness_AbandonedByPins :
    { machine with env := { Env.quiet with slots := [⟨[.writeByte 0 1], some .stby⟩] } }.env.slots =
        ⟨[.writeByte 0 1], some .stby⟩ :: [] ∧ machine.params.eClock = true ∧ machine.params.map = [] ∧
      { machine with env := { Env.quiet with slots := [⟨[], none⟩, ⟨[], none⟩, ⟨[], some .res⟩] } }.env.slots =
        [⟨[], none⟩, ⟨[], none⟩, ⟨[], some .res⟩] := by decide

theorem test_witness_ResetHandling :
    { machine with proc := .reset }.proc = .reset ∧ { machine with proc := .reset }.sample.undisturbed ∧
      { machine with proc := .reset }.sample.env.stbyLow = false ∧
      { machine with proc := .reset }.sample.env.resLow = false ∧ { machine with proc := .reset }.readsComplete :=
  ⟨rfl, rfl, by decide, by decide, fun _ => rfl⟩

theorem test_witness_BusRelease :
    { machine with env := { Env.quiet with busRequest := true } }.sample.env.stbyLow = false ∧
      { machine with env := { Env.quiet with busRequest := true } }.sample.env.resLow = false ∧
      { machine with env := { Env.quiet with busRequest := true } }.sample.env.busRequest = true ∧ machine.proc = .run ∧
      { machine with proc := .busReleased }.sample.env.busRequest = false ∧
      { machine with proc := .busReleased }.proc = .busReleased := by decide

theorem test_witness_StepKeepsInvariant :
    machine.Inv ∧ machineNormal.Inv ∧ (∃ t, step machine = .next t) ∧ ∃ t, step machineNormal = .next t :=
  ⟨machine_inv, machineNormal_inv, exists_next _ (by decide), exists_next _ (by decide)⟩

end Sys2Proof.Tests
end

section
/-! ### What an instruction, or another sequence of bus accesses, may change

`s.Keeps c t` says what `t` keeps of `s` when the changes `c` are licensed; `s.Ends c r` says that whatever the sequence
`r` gives is such a `t`, or `s` abandoned on the way by a pin. One rule for each shared operation says so of it; each
statement about every instruction is then read off the two relations. -/

namespace Sys2Proof.Machine

/-- An address PC may hold: even (10_state R31), below 2^16 in normal mode (R35). -/
def State.PcOk (s : State) (a : Addr) : Prop :=
  a.getLsbD 0 = false ∧ (s.params.mode = .normal → a.toNat < 2 ^ 16)

theorem State.pcOk_loadPc (s : State) (a : Addr) : s.PcOk (s.loadPc a) := ⟨loadPc_even s a, loadPc_normal s a⟩

theorem State.pcOk_nextPc {s : State} {len : Addr} (hl : len.getLsbD 0 = false) (h : s.PcOk s.pc) :
    s.PcOk (s.nextPc len) := ⟨nextPc_even s len h.1 hl, nextPc_normal s len⟩

theorem State.PcOk.congr {s t : State} {a : Addr} (hp : t.params = s.params) (h : t.PcOk a) : s.PcOk a :=
  ⟨h.1, fun hm => h.2 (hp ▸ hm)⟩

/-- I, UI and U, the bits of CCR that no computation writes (R47, R50), are those of another CCR. -/
def KeepsMask (a b : Byte) : Prop :=
  ccrGet b .i = ccrGet a .i ∧ ccrGet b .ui = ccrGet a .ui ∧ ccrGet b .u = ccrGet a .u

theorem KeepsMask.refl (a : Byte) : KeepsMask a a := ⟨rfl, rfl, rfl⟩

theorem KeepsMask.trans {a b d : Byte} (h : KeepsMask a b) (k : KeepsMask b d) : KeepsMask a d :=
  ⟨k.1.trans h.1, k.2.1.trans h.2.1, k.2.2.trans h.2.2⟩

/-- The parts of the state that only some instructions change. -/
structure Changes where
  /-- I, UI and U. -/
  mask : Bool := false
  /-- The inhibit bit. -/
  inhibit : Bool := false
  /-- The processing state. -/
  proc : Bool := false
  /-- The inputs: a pending NMI is noted for the next step. -/
  note : Bool := false

/-- Everything but the registers, PC, memory, the prefetched word, H N Z V C and what devices saw is as it was, unless
`c` licenses the change; memory stays canonical and PC legal; the reset state is not entered. -/
structure State.Keeps (c : Changes) (s t : State) : Prop where
  params : t.params = s.params
  inputs : t.inputs = s.inputs
  draws : t.draws = s.draws
  wf : memWf s.mem = true → memWf t.mem = true
  pc : s.PcOk s.pc → s.PcOk t.pc
  running : s.proc ≠ .reset → t.proc ≠ .reset
  env : s.undisturbed → t.env = s.env ∨
    c.note = true ∧ ∃ v, s.env.nmi = some v ∧ t.env = { s.env with nmiDuring := some ⟨0, v⟩ }
  inhibit : c.inhibit = true ∨ t.intInhibit = s.intInhibit
  proc : c.proc = true ∨ t.proc = s.proc
  mask : c.mask = true ∨ KeepsMask s.ccr t.ccr

/-- A pin goes Low before one of the bus accesses and the sequence is abandoned there (60_exceptions R553, R555). -/
def State.Abandons (c : Changes) (s t : State) : Prop := ¬ s.undisturbed ∧ ∃ u, s.Keeps c u ∧ u.AbandonedTo t

/-- Whatever the sequence gives keeps what `c` does not license, or is `s` abandoned. -/
def State.Ends (c : Changes) (s : State) (r : Result) : Prop := ∀ t, r = .next t → s.Keeps c t ∨ s.Abandons c t

section
variable {c : Changes} {s s0 : State}

/-! ### Keeping -/

theorem State.Keeps.refl : s.Keeps c s :=
  ⟨rfl, rfl, rfl, id, id, id, fun _ => .inl rfl, .inr rfl, .inr rfl, .inr (.refl _)⟩

theorem State.Keeps.undisturbed {t : State} (h : s.Keeps c t) (hu : s.undisturbed) : t.undisturbed := by
  obtain he | ⟨-, v, -, he⟩ := h.env hu <;> exact (congrArg Env.slots he).trans hu

theorem State.Keeps.trans {t u : State} (h : s.Keeps c t) (k : t.Keeps c u) : s.Keeps c u where
  params := k.params.trans h.params
  inputs := k.inputs.trans h.inputs
  draws := k.draws.trans h.draws
  wf := k.wf ∘ h.wf
  pc hs := (k.pc (.congr h.params.symm (h.pc hs))).congr h.params
  running := k.running ∘ h.running
  env hu := by
    obtain he | ⟨hn, v, hv, he⟩ := h.env hu <;> obtain ke | ⟨kn, w, kv, ke⟩ := k.env (h.undisturbed hu)
    · exact .inl (ke.trans he)
    · exact .inr ⟨kn, w, he ▸ kv, by rw [ke, he]⟩
    · exact .inr ⟨hn, v, hv, ke.trans he⟩
    · exact .inr ⟨kn, w, by rw [he] at kv; exact kv, by rw [ke, he]⟩
  inhibit := by
    obtain h | h := h.inhibit
    · exact .inl h
    · exact k.inhibit.imp id (·.trans h)
  proc := by
    obtain h | h := h.proc
    · exact .inl h
    · exact k.proc.imp id (·.trans h)
  mask := by
    obtain h | h := h.mask
    · exact .inl h
    · exact k.mask.imp id h.trans

/-- What other masters do before an access changes memory alone, and nothing where nothing comes between. -/
theorem State.Keeps.of_disturbed {s' : State} (h : s.Disturbed s') (hu : ¬ s.undisturbed) : s.Keeps c s' where
  params := h.params
  inputs := h.inputs
  draws := h.draws
  wf := h.wf
  pc hs := h.pc ▸ hs
  running hr := h.proc ▸ hr
  env h' := absurd h' hu
  inhibit := .inr h.intInhibit
  proc := .inr h.proc
  mask := .inr (h.ccr ▸ .refl _)

/-! Rules for a part of the state written. Fields that no rule names are those of `s` by definition. -/

theorem State.Keeps.setEr (h : s0.Keeps c s) (n : ERn) (v : Long) : s0.Keeps c (s.setEr n v) := { h with }

theorem State.Keeps.setReg8 (h : s0.Keeps c s) (r : R8) (v : Byte) : s0.Keeps c (s.setReg8 r v) := { h with }

theorem State.Keeps.setReg16 (h : s0.Keeps c s) (r : R16) (v : Word) : s0.Keeps c (s.setReg16 r v) := { h with }

theorem State.Keeps.withCcr {x : Byte} (h : s0.Keeps c s) (hx : c.mask = true ∨ KeepsMask s.ccr x) :
    s0.Keeps c (s.withCcr x) :=
  { h with
    mask := by
      obtain hm | hm := h.mask
      · exact .inl hm
      · exact hx.imp id hm.trans }

/-- Registers and flags written together, as an instruction on registers does. -/
theorem State.Keeps.registers {x : Byte} (h : s0.Keeps c s) (regs : RegFile) (hx : KeepsMask s.ccr x) :
    s0.Keeps c { s with regs := regs, ccr := x } :=
  State.Keeps.withCcr (s := { s with regs := regs }) { h with } (.inr hx)

theorem State.Keeps.sawRead8 (h : s0.Keeps c s) (a : Addr) : s0.Keeps c (s.sawRead8 a) := { h with }

theorem State.Keeps.sawRead16 (h : s0.Keeps c s) (a : Addr) : s0.Keeps c (s.sawRead16 a) := { h with }

theorem State.Keeps.write8 (h : s0.Keeps c s) (a : Addr) (v : Byte) : s0.Keeps c (s.write8 a v) :=
  { h with wf := fun hs => s.write8_wf a v (h.wf hs) }

theorem State.Keeps.write16 (h : s0.Keeps c s) (a : Addr) (v : Word) : s0.Keeps c (s.write16 a v) :=
  { h with wf := fun hs => s.write16_wf a v (h.wf hs) }

theorem State.Keeps.atAddress (h : s0.Keeps c s) {a : Addr} (ha : s0.PcOk s0.pc → s0.PcOk a) (w : Word) :
    s0.Keeps c { s with pc := a, pf := w } := { h with pc := ha }

theorem State.Keeps.withProc (h : s0.Keeps c s) (hc : c.proc = true) {p : ProcState} (hp : p ≠ .reset) :
    s0.Keeps c { s with proc := p } := { h with running := fun _ => hp, proc := .inl hc }

theorem State.Keeps.loadCcr (h : s0.Keeps c s) (hm : c.mask = true) (hi : c.inhibit = true) (v : Byte) :
    s0.Keeps c (s.loadCcr v) := { h with mask := .inl hm, inhibit := .inl hi }

/-- An NMI that cuts EEPMOV.W short is noted, nothing else. -/
theorem State.Keeps.rememberNmi (hc : c.note = true) : s.Keeps c { s with env := s.env.rememberNmi } :=
  { State.Keeps.refl with
    env := fun _ => by
      cases hv : s.env.nmi with
      | some v => exact .inr ⟨hc, v, rfl, by simp [Env.rememberNmi, hv]⟩
      | none => exact .inl (by simp [Env.rememberNmi, hv]) }

/-- The next PC of an instruction of an even number of bytes is legal. -/
theorem State.Keeps.nextPc (h : s0.Keeps c s) {len : Addr} (hl : len.getLsbD 0 = false) (hs : s0.PcOk s0.pc) :
    s0.PcOk (s.nextPc len) :=
  (State.pcOk_nextPc hl (.congr h.params.symm (h.pc hs))).congr h.params

theorem State.Keeps.loadPc (h : s0.Keeps c s) (a : Addr) : s0.PcOk (s.loadPc a) := (s.pcOk_loadPc a).congr h.params

/-! ### Ends: results, and the shared operations in the order of Ops -/

theorem State.Ends.next (h : s0.Keeps c s) : s0.Ends c (.next s) := fun _ e => by
  cases e; exact .inl h

theorem State.Ends.fault (f : Fault) : s.Ends c (.fault f) := fun _ e => nomatch e

/-- A sequence that goes on from a later state. -/
theorem State.Keeps.ends {r : Result} (h : s0.Keeps c s) (hr : s.Ends c r) : s0.Ends c r := fun t e =>
  (hr t e).imp h.trans fun ⟨hd, u, hu, ha⟩ => ⟨hd ∘ h.undisturbed, u, h.trans hu, ha⟩

theorem State.Ends.drawn {b : Bool} {x y : Result} (hx : s.Ends c x) (hy : s.Ends c y) : s.Ends c (drawn b x y) :=
  fun t e => ((drawn_next ..).mp e).elim (fun e => hx t e.2) fun e => hy t e.2

theorem State.Keeps.beforeAccess (h : s0.Keeps c s) {k : State → Result}
    (hk : ∀ s', s0.Keeps c s' → s0.Ends c (k s')) : s0.Ends c (beforeAccess s k) := by
  intro t e
  by_cases hu : s.undisturbed
  · rw [beforeAccess_of s k hu] at e
    exact hk s h t e
  · obtain ha | ⟨s', hd, e⟩ := beforeAccess_cases s k t e
    · exact .inr ⟨hu ∘ h.undisturbed, s, h, ha⟩
    · exact hk s' (h.trans (.of_disturbed hd hu)) t e

theorem State.Ends.checkRead {a : Addr} {k : Result} (hk : s0.Ends c k) : s0.Ends c (checkRead s a k) := fun t e =>
  hk t ((checkRead_next ..).mp e).2

theorem State.Ends.checkRead16 {a : Addr} {k : Result} (hk : s0.Ends c k) : s0.Ends c (checkRead16 s a k) :=
  hk.checkRead.checkRead

theorem State.Ends.checkWrite {a : Addr} {k : Result} (hk : s0.Ends c k) : s0.Ends c (checkWrite s a k) := fun t e =>
  hk t ((checkWrite_next ..).mp e).2

theorem State.Keeps.load8 (h : s0.Keeps c s) {a : Addr} {k : Byte → State → Result}
    (hk : ∀ v s', s0.Keeps c s' → s0.Ends c (k v s')) : s0.Ends c (load8 s a k) :=
  h.beforeAccess fun _ h => .checkRead (hk _ _ (h.sawRead8 a))

theorem State.Keeps.readWord (h : s0.Keeps c s) {why : Config.ReadPurpose} {a : Addr} {k : Word → State → Result}
    (hk : ∀ w s', s0.Keeps c s' → s0.Ends c (k w s')) : s0.Ends c (readWord why s a k) :=
  h.beforeAccess fun _ h => .checkRead16 (hk _ _ (h.sawRead16 a))

theorem State.Keeps.load16 (h : s0.Keeps c s) {a : Addr} {k : Word → State → Result}
    (hk : ∀ w s', s0.Keeps c s' → s0.Ends c (k w s')) : s0.Ends c (load16 s a k) := h.readWord hk

theorem State.Keeps.load32 (h : s0.Keeps c s) {a : Addr} {k : Long → State → Result}
    (hk : ∀ l s', s0.Keeps c s' → s0.Ends c (k l s')) : s0.Ends c (load32 s a k) :=
  h.load16 fun _ _ h => h.load16 fun _ _ h => hk _ _ h

theorem State.Keeps.store8 (h : s0.Keeps c s) {a : Addr} {v : Byte} {k : State → Result}
    (hk : ∀ s', s0.Keeps c s' → s0.Ends c (k s')) : s0.Ends c (store8 s a v k) :=
  h.beforeAccess fun _ h => .checkWrite (hk _ (h.write8 a v))

theorem State.Keeps.store16 (h : s0.Keeps c s) {a : Addr} {v : Word} {k : State → Result}
    (hk : ∀ s', s0.Keeps c s' → s0.Ends c (k s')) : s0.Ends c (store16 s a v k) :=
  h.beforeAccess fun _ h => .checkWrite (.checkWrite (hk _ (h.write16 a v)))

theorem State.Keeps.store32 (h : s0.Keeps c s) {a : Addr} {v : Long} {k : State → Result}
    (hk : ∀ s', s0.Keeps c s' → s0.Ends c (k s')) : s0.Ends c (store32 s a v k) :=
  h.store16 fun _ h => h.store16 hk

theorem State.Keeps.store32AnyOrder (h : s0.Keeps c s) {a : Addr} {v : Long} {k : State → Result}
    (hk : ∀ s', s0.Keeps c s' → s0.Ends c (k s')) : s0.Ends c (store32AnyOrder s a v k) :=
  .drawn (h.store32 hk) (h.store16 fun _ h => h.store16 hk)

theorem State.Keeps.fetchAt (h : s0.Keeps c s) {a : Addr} {k : State → Result} (ha : s0.PcOk s0.pc → s0.PcOk a)
    (hk : ∀ s', s0.Keeps c s' → s0.Ends c (k s')) : s0.Ends c (fetchAt s a k) :=
  h.readWord fun w _ h => hk _ (h.atAddress ha w)

theorem State.Keeps.advance (h : s0.Keeps c s) {len : Addr} {k : State → Result} (hl : len.getLsbD 0 = false)
    (hk : ∀ s', s0.Keeps c s' → s0.Ends c (k s')) : s0.Ends c (advance len s k) := h.fetchAt (h.nextPc hl) hk

theorem State.Keeps.goNext (h : s0.Keeps c s) {len : Addr} (hl : len.getLsbD 0 = false) : s0.Ends c (goNext len s) :=
  h.advance hl fun _ h => .next h

theorem State.Keeps.goTo (h : s0.Keeps c s) (a : Addr) : s0.Ends c (goTo a s) :=
  h.fetchAt (fun _ => h.loadPc a) fun _ h => .next h

theorem State.Keeps.discardNext (h : s0.Keeps c s) {k : State → Result}
    (hk : ∀ s', s0.Keeps c s' → s0.Ends c (k s')) : s0.Ends c (discardNext s k) := h.readWord fun _ => hk

theorem State.Keeps.loadPointer (h : s0.Keeps c s) {a : Addr} {k : Addr → State → Result}
    (hk : ∀ p s', s0.Keeps c s' → s0.Ends c (k p s')) : s0.Ends c (loadPointer s a k) := by
  unfold Machine.loadPointer
  cases s.params.mode
  · exact h.load16 fun _ => hk _
  · exact h.load32 fun _ => hk _

theorem State.Keeps.pushPc (h : s0.Keeps c s) {ret : Addr} {k : State → Result}
    (hk : ∀ s', s0.Keeps c s' → s0.Ends c (k s')) : s0.Ends c (pushPc s ret k) := by
  unfold Machine.pushPc
  cases s.params.mode
  · exact h.store16 fun _ h => hk _ (h.setEr ..)
  · exact h.store16 fun _ h => h.store16 fun _ h => hk _ (h.setEr ..)

theorem State.Keeps.popPc (h : s0.Keeps c s) {k : Addr → State → Result}
    (hk : ∀ a s', s0.Keeps c s' → s0.Ends c (k a s')) : s0.Ends c (popPc s k) := by
  unfold Machine.popPc
  cases s.params.mode
  · exact h.load16 fun _ _ h => hk _ _ (h.setEr ..)
  · exact h.load16 fun _ _ h => h.load16 fun _ _ h => hk _ _ (h.setEr ..)

theorem State.Keeps.exceptionEntry (h : s0.Keeps c s) (hm : c.mask = true) (hp : c.proc = true) (ret : Addr)
    (vec : Nat) : s0.Ends c (exceptionEntry s ret vec) :=
  h.store16 fun _ h => h.store16 fun _ h =>
    (((h.setEr ..).withCcr (.inl hm)).withProc hp (by decide)).loadPointer fun p _ h => h.goTo p

theorem State.Keeps.exceptionReturn (h : s0.Keeps c s) (hm : c.mask = true) : s0.Ends c (exceptionReturn s) :=
  h.load16 fun _ _ h => h.load16 fun _ _ h => ((h.setEr ..).withCcr (.inl hm)).goTo _

/-- Reset exception handling, from the state it has entered with the registers drawn. -/
theorem State.resetException_ends (s : State) : s.resetEntered.Ends c (resetException s) :=
  State.Keeps.loadPointer (s := s.resetEntered) .refl fun p _ h => h.goTo p

end
end Sys2Proof.Machine
end

section
/-! ### Every instruction

No instruction changes what `changesOf` does not name; one line of `exec_ends` for each way in which instructions make
their accesses. -/

namespace Sys2Proof.Machine

/-- What of `Changes` an instruction may change: LDC, ANDC, ORC and XORC load CCR and set the inhibit; RTE and TRAPA
write all of CCR, TRAPA leaves the CPU running; SLEEP ends that; EEPMOV.W notes an NMI that cuts it short. -/
def changesOf : Instr → Changes
  | .rte => { mask := true }
  | .trapaImm2 _ => { mask := true, proc := true }
  | .sleep => { proc := true }
  | .eepmovW => { note := true }
  | i => { mask := loadsCcr i, inhibit := loadsCcr i }

/-! Flags: every computation leaves I, UI and U. -/

section
variable {w : Nat} (a : Byte) (d x : BitVec w) (b v : Bool)

theorem ccrNZ_keepsMask : KeepsMask a (ccrNZ a x) := by simp [KeepsMask, ccrNZ]

theorem movFlags_keepsMask : KeepsMask a (movFlags a x) := by simp [KeepsMask, movFlags, ccrNZ]

theorem addFlags_keepsMask : KeepsMask a (addFlags a d x b) := by simp [KeepsMask, addFlags, ccrNZ]

theorem subFlags_keepsMask : KeepsMask a (subFlags a d x b) := by simp [KeepsMask, subFlags, ccrNZ]

theorem incFlags_keepsMask : KeepsMask a (incFlags a d x) := by simp [KeepsMask, incFlags, ccrNZ]

theorem decFlags_keepsMask : KeepsMask a (decFlags a d x) := by simp [KeepsMask, decFlags, ccrNZ]

theorem divFlags_keepsMask : KeepsMask a (divFlags a b x) := by simp [KeepsMask, divFlags]

theorem shiftFlags_keepsMask : KeepsMask a (shiftFlags a x v b) := by simp [KeepsMask, shiftFlags, ccrNZ]

theorem ccrPut_keepsMask {f : Flag} (hf : f ∉ [Flag.i, .ui, .u]) : KeepsMask a (ccrPut a f b) := by
  cases f <;> simp [KeepsMask] at hf ⊢

theorem KeepsMask.keepZ {a e : Byte} (h : KeepsMask a e) (g : Byte) : KeepsMask a (keepZ g e x) :=
  h.trans (ccrPut_keepsMask _ _ (by decide))

theorem KeepsMask.drawHV {a e : Byte} (h : KeepsMask a e) (s : State) : KeepsMask a (s.drawHV e) :=
  h.trans ((ccrPut_keepsMask _ _ (by decide)).trans (ccrPut_keepsMask _ _ (by decide)))

end

section
variable {c : Changes} {s s0 : State} {len ea : Addr}

/-! The shared meanings, family by family. -/

/-- An instruction on registers: it writes registers and flags and goes on. -/
theorem State.Ends.registers {regs : RegFile} {x : Byte} (hx : KeepsMask s.ccr x) (hl : len.getLsbD 0 = false) :
    s.Ends c (goNext len { s with regs := regs, ccr := x }) := (State.Keeps.refl.registers regs hx).goNext hl

theorem loadMov8_ends {rd : R8} (hl : len.getLsbD 0 = false) : s.Ends c (loadMov8 len ea rd s) :=
  State.Keeps.refl.advance hl fun _ h => h.load8 fun _ _ h => .next (h.registers _ (movFlags_keepsMask ..))

theorem loadMov16_ends {rd : R16} (hl : len.getLsbD 0 = false) : s.Ends c (loadMov16 len ea rd s) :=
  State.Keeps.refl.advance hl fun _ h => h.load16 fun _ _ h => .next (h.registers _ (movFlags_keepsMask ..))

theorem loadMov32_ends {erd : ERn} (hl : len.getLsbD 0 = false) : s.Ends c (loadMov32 len ea erd s) :=
  State.Keeps.refl.advance hl fun _ h => h.load32 fun _ _ h => .next (h.registers _ (movFlags_keepsMask ..))

theorem loadPost8_ends {ers : ERn} {rd : R8} (hl : len.getLsbD 0 = false) : s.Ends c (loadPost8 len ers rd s) :=
  State.Keeps.refl.advance hl fun _ h => h.load8 fun _ s' h => .next <| by
    split <;> exact h.registers _ (movFlags_keepsMask ..)

theorem loadPost16_ends {ers : ERn} {rd : R16} (hl : len.getLsbD 0 = false) : s.Ends c (loadPost16 len ers rd s) :=
  State.Keeps.refl.advance hl fun _ h => h.load16 fun _ s' h => .next <| by
    split <;> exact h.registers _ (movFlags_keepsMask ..)

theorem loadPost32_ends {ers erd : ERn} (hl : len.getLsbD 0 = false) : s.Ends c (loadPost32 len ers erd s) :=
  State.Keeps.refl.advance hl fun _ h => h.load32 fun _ s' h => .next <| by
    split <;> exact h.registers _ (movFlags_keepsMask ..)

theorem State.Keeps.storeMov8 (h : s0.Keeps c s) {v : Byte} (hl : len.getLsbD 0 = false) :
    s0.Ends c (storeMov8 len ea v s) :=
  (h.withCcr (.inr (movFlags_keepsMask ..))).advance hl fun _ h => h.store8 fun _ => .next

theorem State.Keeps.storeMov16 (h : s0.Keeps c s) {v : Word} (hl : len.getLsbD 0 = false) :
    s0.Ends c (storeMov16 len ea v s) :=
  (h.withCcr (.inr (movFlags_keepsMask ..))).advance hl fun _ h => h.store16 fun _ => .next

theorem State.Keeps.storeMov32 (h : s0.Keeps c s) {v : Long} (hl : len.getLsbD 0 = false) :
    s0.Ends c (storeMov32 len ea v s) :=
  (h.withCcr (.inr (movFlags_keepsMask ..))).advance hl fun _ h => h.store32 fun _ => .next

theorem storePre8_ends {rs : R8} {erd : ERn} (hl : len.getLsbD 0 = false) : s.Ends c (storePre8 len rs erd s) :=
  (State.Keeps.refl.setEr ..).storeMov8 hl

theorem storePre16_ends {rs : R16} {erd : ERn} (hl : len.getLsbD 0 = false) : s.Ends c (storePre16 len rs erd s) :=
  (State.Keeps.refl.setEr ..).storeMov16 hl

theorem storePre32_ends {ers erd : ERn} (hl : len.getLsbD 0 = false) : s.Ends c (storePre32 len ers erd s) :=
  ((State.Keeps.refl.setEr ..).withCcr (.inr (movFlags_keepsMask ..))).advance hl fun _ h =>
    h.store32AnyOrder fun _ => .next

theorem execMovfpe_ends {abs : Word} {rd : R8} : s.Ends c (execMovfpeAbs16Rd abs rd s) := by
  unfold execMovfpeAbs16Rd
  split
  · exact .drawn (loadMov8_ends rfl)
      (State.Keeps.refl.load8 fun _ _ h => (h.registers _ (movFlags_keepsMask ..)).goNext rfl)
  · exact .fault _

theorem execMovtpe_ends {rs : R8} {abs : Word} : s.Ends c (execMovtpeRsAbs16 rs abs s) := by
  unfold execMovtpeRsAbs16
  split
  · exact .drawn (State.Keeps.refl.storeMov8 rfl)
      (State.Keeps.refl.store8 fun _ h => (h.withCcr (.inr (movFlags_keepsMask ..))).goNext rfl)
  · exact .fault _

theorem decimalUndefined_ends {rd : R8} (hl : len.getLsbD 0 = false) : s.Ends c (goNext len (s.decimalUndefined rd)) :=
  .registers ((((KeepsMask.refl _).drawHV s).trans (ccrPut_keepsMask _ _ (by decide))).trans
    ((ccrPut_keepsMask _ _ (by decide)).trans (ccrPut_keepsMask _ _ (by decide)))) hl

theorem daa8_ends {rd : R8} (hl : len.getLsbD 0 = false) : s.Ends c (daa8 len rd s) := by
  unfold daa8
  dsimp only
  split
  · exact .registers (((ccrNZ_keepsMask ..).drawHV s).trans (ccrPut_keepsMask _ _ (by decide))) hl
  · exact decimalUndefined_ends hl

theorem das8_ends {rd : R8} (hl : len.getLsbD 0 = false) : s.Ends c (das8 len rd s) := by
  unfold das8
  dsimp only
  split
  · exact .registers ((ccrNZ_keepsMask ..).drawHV s) hl
  · exact decimalUndefined_ends hl

theorem bitWriteMem_ends {f : Byte → Byte} (hl : len.getLsbD 0 = false) : s.Ends c (bitWriteMem len ea f s) :=
  State.Keeps.refl.load8 fun _ _ h => h.advance hl fun _ h => h.store8 fun _ => .next

theorem bitReadMem_ends {f : Byte → Byte → Byte} (hf : ∀ a v, KeepsMask a (f a v)) (hl : len.getLsbD 0 = false) :
    s.Ends c (bitReadMem len ea f s) :=
  State.Keeps.refl.load8 fun _ _ h => (h.withCcr (.inr (hf ..))).goNext hl

theorem branchShort_ends {x : Cond} {disp : Addr} : s.Ends c (branchShort x disp s) := by
  unfold branchShort
  refine State.Keeps.refl.readWord fun a _ h => h.readWord fun b _ h => .next ?_
  split
  · exact h.atAddress (fun _ => s.pcOk_loadPc _) b
  · exact h.atAddress (State.pcOk_nextPc rfl) a

theorem branchLong_ends (x : Cond) {disp : Addr} : s.Ends c (branchLong x disp s) := by
  unfold branchLong
  dsimp only
  split
  · exact State.Keeps.refl.fetchAt (fun _ => s.pcOk_loadPc _) fun _ => .next
  · exact .drawn (State.Keeps.refl.readWord fun _ _ h => h.goNext rfl)
      (State.Keeps.refl.advance rfl fun _ h => h.readWord fun _ _ => .next)

theorem State.Keeps.call (h : s0.Keeps c s) (ret target : Addr) : s0.Ends c (call ret target s) :=
  h.fetchAt (fun _ => h.loadPc target) fun _ h => h.pushPc fun _ => .next

theorem State.Keeps.callIndirect (h : s0.Keeps c s) (ret pointer : Addr) : s0.Ends c (callIndirect ret pointer s) :=
  h.loadPointer fun a _ h => h.pushPc fun _ h => h.goTo a

theorem ldcWord_ends (hm : c.mask = true) (hi : c.inhibit = true) (hl : len.getLsbD 0 = false) :
    s.Ends c (ldcWord len ea s) :=
  State.Keeps.refl.advance hl fun _ h => h.load16 fun _ _ h => .next (h.loadCcr hm hi _)

theorem ldcPost_ends {ers : ERn} (hm : c.mask = true) (hi : c.inhibit = true) (hl : len.getLsbD 0 = false) :
    s.Ends c (ldcPost len ers s) :=
  State.Keeps.refl.advance hl fun _ h => h.load16 fun _ _ h => .next ((h.setEr ..).loadCcr hm hi _)

theorem State.Keeps.stcWord (h : s0.Keeps c s) (hl : len.getLsbD 0 = false) : s0.Ends c (stcWord len ea s) :=
  h.advance hl fun _ h => h.store16 fun _ => .next

theorem execSleep_ends (hp : c.proc = true) : s.Ends c (execSleep s) :=
  (State.Keeps.refl.withProc hp (by split <;> decide)).goNext rfl

theorem State.Keeps.transferByte (h : s0.Keeps c s) {k : State → Result}
    (hk : ∀ s', s0.Keeps c s' → s0.Ends c (k s')) : s0.Ends c (transferByte s k) :=
  h.load8 fun _ _ h => h.store8 fun _ h => hk _ ((h.setEr ..).setEr ..)

theorem State.Keeps.dummyReads (h : s0.Keeps c s) {k : State → Result}
    (hk : ∀ s', s0.Keeps c s' → s0.Ends c (k s')) : s0.Ends c (dummyReads s k) := h.load8 fun _ _ h => h.load8 fun _ => hk

theorem State.Keeps.eepmovLoopB (n : Nat) (h : s0.Keeps c s) : s0.Ends c (eepmovLoopB n s) := by
  induction n generalizing s with
  | zero => exact h.goNext rfl
  | succ n ih => exact h.transferByte fun _ h => ih (h.setReg8 ..)

theorem State.Keeps.eepmovLoopW (hc : c.note = true) (n done : Nat) (h : s0.Keeps c s) :
    s0.Ends c (eepmovLoopW n done s) := by
  induction n generalizing s done with
  | zero => exact h.goNext rfl
  | succ n ih =>
    refine h.transferByte fun s1 h => ?_
    have h2 := h.setReg16 r4 (s1.reg16 r4 - 1)
    dsimp only
    split
    · exact (h2.trans (.rememberNmi hc)).goNext rfl
    · exact ih _ h2

theorem execJmpAtERn_ends (ern : ERn) : s.Ends c (execJmpAtERn ern s) :=
  State.Keeps.refl.discardNext fun _ h => h.goTo _

theorem execJmpInd8_ends (abs8 : Byte) : s.Ends c (execJmpInd8 abs8 s) :=
  State.Keeps.refl.discardNext fun _ h => h.loadPointer fun _ _ h => h.goTo _

theorem execBsrD8_ends (disp8 : Byte) : s.Ends c (execBsrD8 disp8 s) :=
  State.Keeps.refl.discardNext fun _ h => h.call _ _

theorem execJsrAtERn_ends (ern : ERn) : s.Ends c (execJsrAtERn ern s) :=
  State.Keeps.refl.discardNext fun _ h => h.call _ _

theorem execJsrInd8_ends (abs8 : Byte) : s.Ends c (execJsrInd8 abs8 s) :=
  State.Keeps.refl.discardNext fun _ h => h.callIndirect _ _

theorem execRts_ends : s.Ends c (execRts s) :=
  State.Keeps.refl.discardNext fun _ h => h.popPc fun _ _ h => h.goTo _

theorem execRte_ends (hm : c.mask = true) : s.Ends c (execRte s) :=
  State.Keeps.refl.discardNext fun _ h => h.exceptionReturn hm

theorem execTrapa_ends (hm : c.mask = true) (hp : c.proc = true) (imm2 : BitVec 2) : s.Ends c (execTrapaImm2 imm2 s) :=
  State.Keeps.refl.discardNext fun _ h => h.exceptionEntry hm hp _ _

theorem execEepmovB_ends : s.Ends c (execEepmovB s) := State.Keeps.refl.dummyReads fun _ h => h.eepmovLoopB _

theorem execEepmovW_ends (hc : c.note = true) : s.Ends c (execEepmovW s) :=
  State.Keeps.refl.dummyReads fun _ h => h.eepmovLoopW hc _ _

end

/-- Every instruction keeps what `changesOf` does not name, or is abandoned. -/
theorem exec_ends (s : State) : ∀ i, s.Ends (changesOf i) (exec i s)
  | .movBRsRd .. | .movBImm8Rd .. | .andBImm8Rd .. | .andBRsRd .. | .orBImm8Rd .. | .orBRsRd .. | .xorBImm8Rd ..
  | .xorBRsRd .. | .notBRd .. | .movWRsRd .. | .movWImm16Rd .. | .extuWRd .. | .extsWRd .. | .andWImm16Rd ..
  | .andWRsRd .. | .orWImm16Rd .. | .orWRsRd .. | .xorWImm16Rd .. | .xorWRsRd .. | .notWRd .. | .movLERsERd ..
  | .movLImm32ERd .. | .extuLERd .. | .extsLERd .. | .andLImm32ERd .. | .andLERsERd .. | .orLImm32ERd ..
  | .orLERsERd .. | .xorLImm32ERd .. | .xorLERsERd .. | .notLERd .. => .registers (movFlags_keepsMask ..) rfl
  | .movBAtERsRd .. | .movBD16ERsRd .. | .movBD24ERsRd .. | .movBAbs8Rd .. | .movBAbs16Rd .. | .movBAbs24Rd .. =>
    loadMov8_ends rfl
  | .movWAtERsRd .. | .movWD16ERsRd .. | .movWD24ERsRd .. | .movWAbs16Rd .. | .movWAbs24Rd .. => loadMov16_ends rfl
  | .movLAtERsERd .. | .movLD16ERsERd .. | .movLD24ERsERd .. | .movLAbs16ERd .. | .movLAbs24ERd .. =>
    loadMov32_ends rfl
  | .movBPostERsRd .. => loadPost8_ends rfl
  | .movWPostERsRd .. | .popWRn .. => loadPost16_ends rfl
  | .movLPostERsERd .. | .popLERn .. => loadPost32_ends rfl
  | .movBRsAtERd .. | .movBRsD16ERd .. | .movBRsD24ERd .. | .movBRsAbs8 .. | .movBRsAbs16 .. | .movBRsAbs24 .. =>
    State.Keeps.refl.storeMov8 rfl
  | .movWRsAtERd .. | .movWRsD16ERd .. | .movWRsD24ERd .. | .movWRsAbs16 .. | .movWRsAbs24 .. =>
    State.Keeps.refl.storeMov16 rfl
  | .movLERsAtERd .. | .movLERsD16ERd .. | .movLERsD24ERd .. | .movLERsAbs16 .. | .movLERsAbs24 .. =>
    State.Keeps.refl.storeMov32 rfl
  | .movBRsPreERd .. => storePre8_ends rfl
  | .movWRsPreERd .. | .pushWRn .. => storePre16_ends rfl
  | .movLERsPreERd .. | .pushLERn .. => storePre32_ends rfl
  | .movfpeAbs16Rd .. => execMovfpe_ends
  | .movtpeRsAbs16 .. => execMovtpe_ends
  | .addBImm8Rd .. | .addBRsRd .. | .addWImm16Rd .. | .addWRsRd .. | .addLImm32ERd .. | .addLERsERd .. =>
    .registers (addFlags_keepsMask ..) rfl
  | .subBRsRd .. | .subWImm16Rd .. | .subWRsRd .. | .subLImm32ERd .. | .subLERsERd .. | .cmpBImm8Rd ..
  | .cmpBRsRd .. | .cmpWImm16Rd .. | .cmpWRsRd .. | .cmpLImm32ERd .. | .cmpLERsERd .. | .negBRd .. | .negWRd ..
  | .negLERd .. => .registers (subFlags_keepsMask ..) rfl
  | .addsOneERd .. | .addsTwoERd .. | .addsFourERd .. | .subsOneERd .. | .subsTwoERd .. | .subsFourERd ..
  | .mulxuBRsRd .. | .mulxuWRsERd .. | .bsetImm3Rd .. | .bsetRnRd .. | .bclrImm3Rd .. | .bclrRnRd ..
  | .bnotImm3Rd .. | .bnotRnRd .. | .bstImm3Rd .. | .bistImm3Rd .. | .stcCcrRd .. => .registers (.refl _) rfl
  | .addxImm8Rd .. | .addxRsRd .. => .registers ((addFlags_keepsMask ..).keepZ ..) rfl
  | .subxImm8Rd .. | .subxRsRd .. => .registers ((subFlags_keepsMask ..).keepZ ..) rfl
  | .daaRd .. => daa8_ends rfl
  | .dasRd .. => das8_ends rfl
  | .incBRd .. | .incWOneRd .. | .incWTwoRd .. | .incLOneERd .. | .incLTwoERd .. =>
    .registers (incFlags_keepsMask ..) rfl
  | .decBRd .. | .decWOneRd .. | .decWTwoRd .. | .decLOneERd .. | .decLTwoERd .. =>
    .registers (decFlags_keepsMask ..) rfl
  | .mulxsBRsRd .. | .mulxsWRsERd .. => .registers (ccrNZ_keepsMask ..) rfl
  | .divxuBRsRd .. | .divxuWRsERd .. | .divxsBRsRd .. | .divxsWRsERd .. => .registers (divFlags_keepsMask ..) rfl
  | .shalBRd .. | .sharBRd .. | .shllBRd .. | .shlrBRd .. | .rotlBRd .. | .rotrBRd .. | .rotxlBRd .. | .rotxrBRd ..
  | .shalWRd .. | .sharWRd .. | .shllWRd .. | .shlrWRd .. | .rotlWRd .. | .rotrWRd .. | .rotxlWRd .. | .rotxrWRd ..
  | .shalLERd .. | .sharLERd .. | .shllLERd .. | .shlrLERd .. | .rotlLERd .. | .rotrLERd .. | .rotxlLERd ..
  | .rotxrLERd .. => .registers (shiftFlags_keepsMask ..) rfl
  | .bsetImm3AtERd .. | .bsetImm3Abs8 .. | .bsetRnAtERd .. | .bsetRnAbs8 .. | .bclrImm3AtERd .. | .bclrImm3Abs8 ..
  | .bclrRnAtERd .. | .bclrRnAbs8 .. | .bnotImm3AtERd .. | .bnotImm3Abs8 .. | .bnotRnAtERd .. | .bnotRnAbs8 ..
  | .bstImm3AtERd .. | .bstImm3Abs8 .. | .bistImm3AtERd .. | .bistImm3Abs8 .. => bitWriteMem_ends rfl
  | .btstImm3Rd .. | .btstRnRd .. | .bandImm3Rd .. | .biandImm3Rd .. | .borImm3Rd .. | .biorImm3Rd ..
  | .bxorImm3Rd .. | .bixorImm3Rd .. | .bldImm3Rd .. | .bildImm3Rd .. =>
    .registers (ccrPut_keepsMask _ _ (by decide)) rfl
  | .btstImm3AtERd .. | .btstImm3Abs8 .. | .btstRnAtERd .. | .btstRnAbs8 .. | .bandImm3AtERd .. | .bandImm3Abs8 ..
  | .biandImm3AtERd .. | .biandImm3Abs8 .. | .borImm3AtERd .. | .borImm3Abs8 .. | .biorImm3AtERd ..
  | .biorImm3Abs8 .. | .bxorImm3AtERd .. | .bxorImm3Abs8 .. | .bixorImm3AtERd .. | .bixorImm3Abs8 ..
  | .bldImm3AtERd .. | .bldImm3Abs8 .. | .bildImm3AtERd .. | .bildImm3Abs8 .. =>
    bitReadMem_ends (fun _ _ => ccrPut_keepsMask _ _ (by decide)) rfl
  | .braD8 .. | .brnD8 .. | .bhiD8 .. | .blsD8 .. | .bccD8 .. | .bcsD8 .. | .bneD8 .. | .beqD8 .. | .bvcD8 ..
  | .bvsD8 .. | .bplD8 .. | .bmiD8 .. | .bgeD8 .. | .bltD8 .. | .bgtD8 .. | .bleD8 .. => branchShort_ends
  | .braD16 _ => branchLong_ends .ra
  | .brnD16 _ => branchLong_ends .rn
  | .bhiD16 _ => branchLong_ends .hi
  | .blsD16 _ => branchLong_ends .ls
  | .bccD16 _ => branchLong_ends .cc
  | .bcsD16 _ => branchLong_ends .cs
  | .bneD16 _ => branchLong_ends .ne
  | .beqD16 _ => branchLong_ends .eq
  | .bvcD16 _ => branchLong_ends .vc
  | .bvsD16 _ => branchLong_ends .vs
  | .bplD16 _ => branchLong_ends .pl
  | .bmiD16 _ => branchLong_ends .mi
  | .bgeD16 _ => branchLong_ends .ge
  | .bltD16 _ => branchLong_ends .lt
  | .bgtD16 _ => branchLong_ends .gt
  | .bleD16 _ => branchLong_ends .le
  | .jmpAtERn _ => execJmpAtERn_ends _
  | .jmpInd8 _ => execJmpInd8_ends _
  | .bsrD8 _ => execBsrD8_ends _
  | .jsrAtERn _ => execJsrAtERn_ends _
  | .jsrInd8 _ => execJsrInd8_ends _
  | .rts => execRts_ends
  | .rte => execRte_ends rfl
  | .trapaImm2 _ => execTrapa_ends rfl rfl _
  | .jmpAbs24 .. => State.Keeps.refl.goTo _
  | .bsrD16 .. | .jsrAbs24 .. => State.Keeps.refl.call _ _
  | .ldcImm8Ccr .. | .ldcRsCcr .. | .andcImm8Ccr .. | .orcImm8Ccr .. | .xorcImm8Ccr .. =>
    (State.Keeps.refl.loadCcr rfl rfl _).goNext rfl
  | .ldcAtERsCcr .. | .ldcD16ERsCcr .. | .ldcD24ERsCcr .. | .ldcAbs16Ccr .. | .ldcAbs24Ccr .. =>
    ldcWord_ends rfl rfl rfl
  | .ldcPostERsCcr .. => ldcPost_ends rfl rfl rfl
  | .stcCcrAtERd .. | .stcCcrD16ERd .. | .stcCcrD24ERd .. | .stcCcrAbs16 .. | .stcCcrAbs24 .. =>
    State.Keeps.refl.stcWord rfl
  | .stcCcrPreERd .. => (State.Keeps.refl.setEr ..).stcWord rfl
  | .nop => State.Keeps.refl.goNext rfl
  | .sleep => execSleep_ends rfl
  | .eepmovB => execEepmovB_ends
  | .eepmovW => execEepmovW_ends rfl

end Sys2Proof.Machine
end

section
/-! ### Words after a code

The decoder looks no further than the code it reads, so words after it change nothing (30_encoding R125). -/

namespace Sys2Proof

/-- What the first reader reads the second one reads too. -/
def ReadsToo {α : Type} (p q : Option α) : Prop := ∀ i, p = some i → q = some i

section
variable {α : Type} {ns rest : List Nib}

theorem ReadsToo.refl (p : Option α) : ReadsToo p p := fun _ h => h

theorem ReadsToo.none (q : Option α) : ReadsToo none q := fun _ h => nomatch h

theorem ReadsToo.nib {k : Nib → List Nib → Option α} (h : ∀ n ms, ReadsToo (k n ms) (k n (ms ++ rest))) :
    ReadsToo (nib ns k) (nib (ns ++ rest) k) := by
  cases ns with
  | nil => exact .none _
  | cons n ms => exact h n ms

theorem ReadsToo.lit {x : Nib} {k : List Nib → Option α} (h : ∀ ms, ReadsToo (k ms) (k (ms ++ rest))) :
    ReadsToo (lit x ns k) (lit x (ns ++ rest) k) := by
  refine .nib fun n ms => ?_
  split
  · exact h ms
  · exact .none _

theorem ReadsToo.low3 (n : Nib) {k k' : BitVec 3 → Option α} (h : ∀ x, ReadsToo (k x) (k' x)) :
    ReadsToo (low3 n k) (low3 n k') := by
  cases n <;> first | exact h _ | exact .none _

theorem ReadsToo.high3 (n : Nib) {k k' : BitVec 3 → Option α} (h : ∀ x, ReadsToo (k x) (k' x)) :
    ReadsToo (high3 n k) (high3 n k') := by
  cases n <;> first | exact h _ | exact .none _

theorem ReadsToo.split3 (n : Nib) {k k' l l' : BitVec 3 → Option α} (h : ∀ x, ReadsToo (k x) (k' x))
    (h' : ∀ x, ReadsToo (l x) (l' x)) : ReadsToo (split3 n k l) (split3 n k' l') := by
  cases n <;> first | exact h _ | exact h' _

theorem ReadsToo.low2 (n : Nib) {k k' : BitVec 2 → Option α} (h : ∀ x, ReadsToo (k x) (k' x)) :
    ReadsToo (low2 n k) (low2 n k') := by
  cases n <;> first | exact h _ | exact .none _

theorem ReadsToo.ext8 {k : Byte → List Nib → Option α} (h : ∀ x ms, ReadsToo (k x ms) (k x (ms ++ rest))) :
    ReadsToo (ext8 ns k) (ext8 (ns ++ rest) k) := by
  match ns with
  | [] | [_] => exact .none _
  | _ :: _ :: ms => exact h _ ms

theorem ReadsToo.ext16 {k : Word → Option α} : ReadsToo (ext16 ns k) (ext16 (ns ++ rest) k) := by
  match ns with
  | [] | [_] | [_, _] | [_, _, _] => exact .none _
  | _ :: _ :: _ :: _ :: _ => exact .refl _

theorem ReadsToo.ext24 {k : Addr → Option α} : ReadsToo (ext24 ns k) (ext24 (ns ++ rest) k) := by
  match ns with
  | [] | [_] | [_, _] | [_, _, _] | [_, _, _, _] | [_, _, _, _, _] => exact .none _
  | _ :: _ :: _ :: _ :: _ :: _ :: _ => exact .refl _

theorem ReadsToo.ext32 {k : Long → Option α} : ReadsToo (ext32 ns k) (ext32 (ns ++ rest) k) := by
  match ns with
  | [] | [_] | [_, _] | [_, _, _] | [_, _, _, _] | [_, _, _, _, _] | [_, _, _, _, _, _]
  | [_, _, _, _, _, _, _] => exact .none _
  | _ :: _ :: _ :: _ :: _ :: _ :: _ :: _ :: _ => exact .refl _

end

/-- The decoder is a tree of the operations above; each branch reads on or ends. -/
theorem decodeNibs_readsToo (ns rest : List Nib) : ReadsToo (decodeNibs ns) (decodeNibs (ns ++ rest)) := by
  repeat' with_reducible first
    | refine .nib fun _ _ => ?_ | refine .lit fun _ => ?_ | refine .low3 _ fun _ => ?_
    | refine .split3 _ (fun _ => ?_) fun _ => ?_ | refine .high3 _ fun _ => ?_ | refine .low2 _ fun _ => ?_
    | refine .ext8 fun _ _ => ?_ | exact .ext16 | exact .ext24 | exact .ext32 | exact .none _ | exact .refl _
    | split
    | delta decodeNibs decode0 decode01 decode010 decode01006 decode014 decode01406 decode0B decode1 decode17
        decode1B decode4 decode5 decode58 decode6 decode7 decode79 decode7A decode7C decode7D decode7E decode7F

theorem decode_append {got : List Word} {i : Instr} (h : decode got = some i) (rest : List Word) :
    decode (got ++ rest) = some i := by
  rw [decode, List.flatMap_append]
  exact decodeNibs_readsToo _ _ i h

end Sys2Proof
end

section
/-! ### Whole steps -/

namespace Sys2Proof.Machine

section
variable {c : Changes} {s s0 t : State} {r : Result}

/-! What a sequence leaves, abandoned or not. -/

theorem State.AbandonedTo.fixed (h : s.AbandonedTo t) :
    t.params = s.params ∧ t.inputs = s.inputs ∧ t.draws = s.draws ∧ t.intInhibit = s.intInhibit := by
  obtain ⟨u, hu, rfl | rfl⟩ := h <;> exact ⟨hu.params, hu.inputs, hu.draws, hu.intInhibit⟩

theorem State.Ends.fixed (h : s.Ends c r) (e : r = .next t) :
    t.params = s.params ∧ t.inputs = s.inputs ∧ t.draws = s.draws := by
  obtain hk | ⟨-, u, hk, ha⟩ := h t e
  · exact ⟨hk.params, hk.inputs, hk.draws⟩
  · obtain ⟨hp, hi, hd, -⟩ := ha.fixed
    exact ⟨hp.trans hk.params, hi.trans hk.inputs, hd.trans hk.draws⟩

theorem State.Ends.intInhibit (h : s.Ends c r) (hc : c.inhibit = false) (e : r = .next t) :
    t.intInhibit = s.intInhibit := by
  obtain hk | ⟨-, u, hk, ha⟩ := h t e
  · simpa [hc] using hk.inhibit
  · obtain ⟨-, -, -, hi⟩ := ha.fixed
    exact hi.trans (by simpa [hc] using hk.inhibit)

theorem State.Ends.keeps (h : s.Ends c r) (hu : s.undisturbed) (e : r = .next t) : s.Keeps c t :=
  (h t e).resolve_right fun ha => ha.1 hu

/-! ### The invariant -/

theorem State.Inv.pcOk (h : s.Inv) : s.PcOk s.pc := ⟨h.even, h.normal⟩

theorem State.Inv.of_pcOk (hw : memWf s.mem = true) (hp : s.PcOk s.pc) (hr : s.proc = .reset → s.flag .i = true) :
    s.Inv := ⟨hw, hp.1, hp.2, hr⟩

/-- The invariant speaks of memory, PC, the mode, the processing state and CCR alone. -/
theorem State.Inv.congr (h : s.Inv) (hm : memWf t.mem = true) (hpc : t.pc = s.pc) (hp : t.params = s.params)
    (hr : t.proc = .reset → t.flag .i = true) : t.Inv :=
  .of_pcOk hm (hpc ▸ h.pcOk.congr hp.symm) hr

theorem enterReset_flag_i (s : State) : (enterReset s).flag .i = true := by simp [enterReset, State.flag]

/-- A sequence that starts outside the reset state, with memory canonical and PC legal, ends in the invariant: what it
completes keeps both, and a pin that abandons it sets I as it enters the reset state. -/
theorem State.Ends.inv (h : s.Ends c r) (hw : memWf s.mem = true) (hp : s.PcOk s.pc) (hr : s.proc ≠ .reset)
    (e : r = .next t) : t.Inv := by
  obtain hk | ⟨-, u, hk, v, hv, ht⟩ := h t e
  · exact .of_pcOk (hk.wf hw) ((hk.pc hp).congr hk.params.symm) fun ht => absurd ht (hk.running hr)
  · have hpc : v.PcOk v.pc := by
      rw [hv.pc]; exact (hk.pc hp).congr (hv.params.trans hk.params).symm
    obtain rfl | rfl := ht
    · exact .of_pcOk (hv.wf (hk.wf hw)) hpc fun _ => enterReset_flag_i _
    · exact .of_pcOk (hv.wf (hk.wf hw)) hpc fun h => nomatch h

/-- Every change licensed. -/
def Changes.all : Changes := { mask := true, inhibit := true, proc := true, note := true }

theorem State.Keeps.all (h : s.Keeps c t) : s.Keeps .all t :=
  { h with
    env := fun hu => (h.env hu).imp id fun ⟨_, hv⟩ => ⟨rfl, hv⟩
    inhibit := .inl rfl
    proc := .inl rfl
    mask := .inl rfl }

theorem State.Ends.all (h : s.Ends c r) : s.Ends .all r := fun t e =>
  (h t e).imp State.Keeps.all fun ⟨hd, u, hk, ha⟩ => ⟨hd, u, hk.all, ha⟩

theorem State.Keeps.executeWords (h : s0.Keeps .all s) (words : List Word) : s0.Ends .all (executeWords words s) := by
  unfold Machine.executeWords
  split
  · exact h.ends (exec_ends s _).all
  · exact .fault _

theorem State.Keeps.executeFrom (h : s0.Keeps .all s) (left : Nat) (got : List Word) :
    s0.Ends .all (executeFrom left got s) := by
  induction left generalizing s got with
  | zero => exact h.executeWords got
  | succ left ih =>
    rw [Machine.executeFrom]
    split
    · exact h.readWord fun _ _ h => ih h _
    · exact h.executeWords got

theorem executeInstruction_ends (s : State) : s.Ends .all (executeInstruction s) := State.Keeps.refl.executeFrom _ _

theorem exceptionEntry_ends (s : State) (ret : Addr) (vec : Nat) :
    s.Ends { mask := true, proc := true } (exceptionEntry s ret vec) := State.Keeps.refl.exceptionEntry rfl rfl _ _

/-- An accepted request: the discarded read, then the entry (60_exceptions R524). -/
theorem acceptance_ends (s : State) (vec : Nat) :
    s.Ends { mask := true, proc := true } (discardNext s fun s => exceptionEntry s s.pc vec) :=
  State.Keeps.refl.discardNext fun _ h => h.exceptionEntry rfl rfl _ _

theorem leaveHardwareStandby_flag_i (s : State) : (leaveHardwareStandby s).flag .i = true := by
  simp [leaveHardwareStandby, State.flag]

theorem resetException_inv (h : s.Inv) (e : resetException s = .next t) : t.Inv :=
  (s.resetException_ends (c := {})).inv h.mem h.pcOk (fun h => nomatch h) e

theorem State.Inv.otherMasters (h : s.Inv) (es : List Config.BusAccess) : (s.otherMasters es).Inv := by
  have hw := s.otherMasters_wf es h.mem
  rw [s.otherMasters_keeps es] at hw ⊢
  exact h.congr hw rfl rfl h.reset

theorem lowPowerStep_inv (h : s.Inv) (hr : s.proc ≠ .reset) (e : lowPowerStep s = .next t) : t.Inv := by
  unfold lowPowerStep at e
  split at e
  next vec env _ => exact (exceptionEntry_ends { s with env := env } _ _).inv h.mem h.pcOk hr e
  next => cases e; exact h

theorem runStep_inv (h : s.Inv) (hr : s.proc ≠ .reset) (e : runStep s = .next t) : t.Inv := by
  unfold runStep at e
  split at e
  · exact (executeInstruction_ends { s with intInhibit := false }).inv h.mem h.pcOk hr e
  · split at e
    next vec env _ => exact (acceptance_ends { s with env := env } vec).inv h.mem h.pcOk hr e
    next => exact (executeInstruction_ends s).inv h.mem h.pcOk hr e

theorem stateStep_inv (h : s.Inv) (e : stateStep s = .next t) : t.Inv := by
  unfold stateStep at e
  split at e
  case h_1 => cases e; exact h.congr h.mem rfl rfl fun _ => leaveHardwareStandby_flag_i s
  case h_2 => exact resetException_inv h e
  case h_3 =>
    unfold busReleasedStep at e
    split at e <;> cases e
    · exact h.otherMasters _
    · exact h.congr h.mem rfl rfl fun h => nomatch h
  case h_4 hp => exact lowPowerStep_inv h (by simp [hp]) e
  case h_5 hp => exact lowPowerStep_inv h (by simp [hp]) e
  case h_6 hp =>
    split at e
    · cases e
      have ho := h.otherMasters s.env.busAccesses
      exact ho.congr ho.mem rfl rfl fun h => nomatch h
    · exact runStep_inv h (by simp [hp]) e

theorem pinStep_inv (h : s.Inv) (e : pinStep s = .next t) : t.Inv := by
  obtain ⟨-, rfl⟩ | ⟨-, -, rfl⟩ | ⟨-, -, -, rfl⟩ | ⟨-, -, -, e⟩ := pinStep_next s t e
  · exact h.congr h.mem rfl rfl fun h => nomatch h
  · exact h.congr h.mem rfl rfl fun _ => leaveHardwareStandby_flag_i s
  · exact h.congr h.mem rfl rfl fun _ => enterReset_flag_i s
  · exact stateStep_inv h e

/-- Sampling the inputs changes them and the index of the draws alone. -/
theorem State.sample_keeps (s : State) :
    s.sample = { s with env := s.sample.env, inputs := s.sample.inputs, draws := s.sample.draws } := by
  unfold State.sample
  split <;> rfl

theorem State.Inv.sample (h : s.Inv) : s.sample.Inv := by
  rw [s.sample_keeps]
  exact ⟨h.mem, h.even, h.normal, h.reset⟩

/-- Settles O55: a step samples the inputs, then does what the pins and the processing state say. -/
theorem stepKeepsInvariant : Obligations.StepKeepsInvariant := fun _ _ h e => pinStep_inv h.sample e

end
end Sys2Proof.Machine
end

section
/-! ### What no instruction changes (O48) and the inhibit bit (O46) -/

namespace Sys2Proof.Machine

theorem changesOf_inhibit (i : Instr) : (changesOf i).inhibit = loadsCcr i := by
  unfold changesOf
  split <;> rfl

theorem changesOf_note {i : Instr} (h : (changesOf i).note = true) : i = .eepmovW := by
  unfold changesOf at h
  split at h <;> first | rfl | exact nomatch h

theorem changesOf_proc {i : Instr} (h : (changesOf i).proc = true) : i = .sleep ∨ ∃ n, i = .trapaImm2 n := by
  unfold changesOf at h
  split at h
  case h_2 n => exact .inr ⟨n, rfl⟩
  case h_3 => exact .inl rfl
  all_goals exact nomatch h

theorem changesOf_mask {i : Instr} (h : (changesOf i).mask = true) :
    loadsCcr i = true ∨ i = .rte ∨ ∃ n, i = .trapaImm2 n := by
  unfold changesOf at h
  split at h
  case h_1 => exact .inr (.inl rfl)
  case h_2 n => exact .inr (.inr ⟨n, rfl⟩)
  case h_3 | h_4 => exact nomatch h
  case h_5 => exact .inl h

/-- Settles O48: what `exec_ends` says of the instruction, read off its licence `changesOf`. -/
theorem untouchedByInstructions : Obligations.UntouchedByInstructions := by
  intro i s t e
  obtain ⟨hp, hi, hd⟩ := (exec_ends s i).fixed e
  refine ⟨hp, hi, hd, fun hu => ?_⟩
  have hk := (exec_ends s i).keeps hu e
  refine ⟨(hk.env hu).imp id fun ⟨hn, hv⟩ => ⟨changesOf_note hn, hv⟩, fun hsleep htrapa => ?_,
    fun hload hrte htrapa => ?_⟩
  · refine hk.proc.resolve_left fun h => ?_
    obtain h | ⟨n, h⟩ := changesOf_proc h
    · exact hsleep h
    · exact htrapa n h
  · refine hk.mask.resolve_left fun h => ?_
    obtain h | h | ⟨n, h⟩ := changesOf_mask h
    · exact nomatch hload.symm.trans h
    · exact hrte h
    · exact htrapa n h

/-! LDC, ANDC, ORC and XORC. -/

/-- The instructions that load CCR do it in one of three ways: from a register or an immediate, from memory, or from
memory with post-increment. -/
theorem loadsCcr_shape {i : Instr} (h : loadsCcr i = true) (s : State) :
    (∃ v, exec i s = goNext 2 (s.loadCcr v)) ∨ (∃ len ea, exec i s = ldcWord len ea s) ∨
      ∃ len ers, exec i s = ldcPost len ers s := by
  unfold loadsCcr at h
  split at h
  case h_1 | h_2 | h_9 | h_10 | h_11 => exact .inl ⟨_, rfl⟩
  case h_3 | h_4 | h_5 | h_7 | h_8 => exact .inr (.inl ⟨_, _, rfl⟩)
  case h_6 => exact .inr (.inr ⟨_, _, rfl⟩)
  case h_12 => exact nomatch h

/-- Each of them sets the inhibit as it completes (R512). -/
theorem exec_sets_intInhibit {i : Instr} {s t : State} (hl : loadsCcr i = true) (hu : s.undisturbed)
    (e : exec i s = .next t) : t.intInhibit = true := by
  obtain ⟨v, h⟩ | ⟨len, ea, h⟩ | ⟨len, ers, h⟩ := loadsCcr_shape hl s <;> rw [h] at e
  · obtain ⟨-, rfl⟩ := (goNext_next _ (s.loadCcr v) _ hu).mp e
    rfl
  · obtain ⟨-, e⟩ := (advance_next _ _ _ _ hu).mp e
    obtain ⟨-, e⟩ := (load16_next (s.past len) _ _ _ hu).mp e
    cases e; rfl
  · obtain ⟨-, e⟩ := (advance_next _ _ _ _ hu).mp e
    obtain ⟨-, e⟩ := (load16_next (s.past len) _ _ _ hu).mp e
    cases e; rfl

theorem exec_intInhibit {i : Instr} {s t : State} (hu : s.undisturbed) (e : exec i s = .next t) :
    t.intInhibit = (loadsCcr i || s.intInhibit) := by
  cases hl : loadsCcr i with
  | true => exact exec_sets_intInhibit hl hu e
  | false => exact (exec_ends s i).intInhibit ((changesOf_inhibit i).trans hl) e

/-! The instruction a step runs. -/

theorem State.Keeps.sawWords {c : Changes} {s0 s : State} (h : s0.Keeps c s) (off n : Nat) :
    s0.Keeps c (s.sawWords off n) := by
  induction n generalizing s off with
  | zero => exact h
  | succ n ih => exact ih (h.sawRead16 _) _

theorem State.wordsAhead_add (s : State) (off n m : Nat) :
    s.wordsAhead off (n + m) = s.wordsAhead off n ++ (s.sawWords off n).wordsAhead (off + 2 * n) m := by
  induction n generalizing s off with
  | zero => rw [Nat.zero_add]; rfl
  | succ n ih =>
    rw [Nat.succ_add, State.wordsAhead, ih, show off + 2 + 2 * n = off + 2 * (n + 1) by omega]
    rfl

/-- An instruction that nothing disturbs completes only where the words fetched for it are a code. -/
theorem executeFrom_next {left : Nat} {got : List Word} {s t : State} (hu : s.undisturbed)
    (e : executeFrom left got s = .next t) :
    ∃ n i, n ≤ left ∧ decode (got ++ s.wordsAhead (2 * got.length) n) = some i ∧
      exec i (s.sawWords (2 * got.length) n) = .next t := by
  have stop {got : List Word} {s : State} (e : executeWords got s = .next t) :
      ∃ i, decode (got ++ s.wordsAhead (2 * got.length) 0) = some i ∧ exec i s = .next t := by
    unfold executeWords at e
    split at e
    · exact ⟨_, by rwa [State.wordsAhead, List.append_nil], e⟩
    · exact nomatch e
  induction left generalizing got s with
  | zero =>
    obtain ⟨i, hd, e⟩ := stop e
    exact ⟨0, i, Nat.le_refl _, hd, e⟩
  | succ left ih =>
    rw [executeFrom] at e
    split at e
    · obtain ⟨-, e⟩ := (readWord_next _ _ _ _ _ hu).mp e
      obtain ⟨n, i, hn, hd, e⟩ := ih (s := s.sawRead16 _) hu e
      rw [List.length_append, List.length_singleton, Nat.mul_succ] at hd e
      exact ⟨n + 1, i, Nat.succ_le_succ hn, by rwa [State.wordsAhead_succ, List.append_cons], e⟩
    · obtain ⟨i, hd, e⟩ := stop e
      exact ⟨0, i, Nat.zero_le _, hd, e⟩

/-- It is then the instruction that the words at PC are the code of. -/
theorem executeInstruction_next {s t : State} (hu : s.undisturbed) (e : executeInstruction s = .next t) :
    ∃ n i, decode s.instructionWords = some i ∧ exec i (s.sawWords 2 n) = .next t := by
  obtain ⟨n, i, hn, hd, e⟩ := executeFrom_next hu e
  refine ⟨n, i, ?_, e⟩
  have h : decode ([s.pf] ++ s.wordsAhead 2 n ++ (s.sawWords 2 n).wordsAhead (2 + 2 * n) (4 - n)) = some i :=
    decode_append hd _
  rwa [List.append_assoc, ← State.wordsAhead_add, Nat.add_sub_cancel' hn] at h

/-- Run with the inhibit cleared, an instruction leaves it set exactly if it loads CCR. -/
theorem executeInstruction_intInhibit {s t : State} (hu : s.undisturbed)
    (e : executeInstruction { s with intInhibit := false } = .next t) :
    ∃ i, decode s.instructionWords = some i ∧ t.intInhibit = loadsCcr i := by
  obtain ⟨n, i, hd, e⟩ := executeInstruction_next (s := { s with intInhibit := false }) hu e
  have hk := State.Keeps.sawWords (c := {}) (.refl (s := { s with intInhibit := false })) 2 n
  have hi : (State.sawWords { s with intInhibit := false } 2 n).intInhibit = false := by simpa using hk.inhibit
  refine ⟨i, hd, ?_⟩
  rw [exec_intInhibit (hk.undisturbed hu) e, hi, Bool.or_false]

/-- A step in program execution accepts a request, or runs an instruction with the inhibit cleared. -/
theorem runStep_next {s t : State} (e : runStep s = .next t) :
    (s.intInhibit = false ∧ s.acceptedRequest ≠ none ∧ t.intInhibit = false) ∨
      executeInstruction { s with intInhibit := false } = .next t := by
  unfold runStep at e
  cases hi : s.intInhibit with
  | true => rw [if_pos hi] at e; exact .inr e
  | false =>
    rw [if_neg (by simp [hi])] at e
    split at e
    next vec env h =>
      exact .inl ⟨rfl, by simp [h], ((acceptance_ends { s with env := env } vec).intInhibit rfl e).trans hi⟩
    next => rw [← hi]; exact .inr e

/-- Over the part of a step that follows the sampling, the inhibit stays, unless reset exception handling or an
instruction runs. -/
theorem stateStep_intInhibit {s t : State} (e : stateStep s = .next t) :
    t.intInhibit = s.intInhibit ∨ s.proc = .reset ∨
      s.proc = .run ∧ executeInstruction { s with intInhibit := false } = .next t := by
  unfold stateStep at e
  split at e
  case h_1 => cases e; exact .inl rfl
  case h_2 h => exact .inr (.inl h)
  case h_3 =>
    unfold busReleasedStep at e
    split at e <;> cases e
    · rw [State.otherMasters_keeps]; exact .inl rfl
    · exact .inl rfl
  case h_4 | h_5 =>
    unfold lowPowerStep at e
    split at e
    next vec env _ => exact .inl ((exceptionEntry_ends { s with env := env } _ _).intInhibit rfl e)
    next => cases e; exact .inl rfl
  case h_6 h =>
    split at e
    · cases e; rw [State.otherMasters_keeps]; exact .inl rfl
    · exact (runStep_next e).imp (fun ⟨hs, _, ht⟩ => ht.trans hs.symm) fun e => .inr ⟨h, e⟩

theorem State.sample_intInhibit (s : State) : s.sample.intInhibit = s.intInhibit := by rw [s.sample_keeps]

theorem State.sample_proc (s : State) : s.sample.proc = s.proc := by rw [s.sample_keeps]

/-- Over a whole step likewise. -/
theorem step_intInhibit {s t : State} (e : step s = .next t) :
    t.intInhibit = s.intInhibit ∨ s.proc = .reset ∨
      s.proc = .run ∧ executeInstruction { s.sample with intInhibit := false } = .next t := by
  rw [← s.sample_intInhibit, ← s.sample_proc]
  obtain ⟨-, rfl⟩ | ⟨-, -, rfl⟩ | ⟨-, -, -, rfl⟩ | ⟨-, -, -, e⟩ := pinStep_next s.sample t e
  · exact .inl rfl
  · exact .inl rfl
  · exact .inl rfl
  · exact stateStep_intInhibit e

/-- Where nothing is taken first the step runs an instruction. -/
theorem State.RunsNext.step_next {s t : State} (h : s.RunsNext) (e : step s = .next t) :
    executeInstruction { s.sample with intInhibit := false } = .next t := by
  have hrun : s.sample.proc = .run := s.sample_proc.trans h.run
  obtain ⟨hs, -⟩ | ⟨-, hp, -⟩ | ⟨-, -, hr, -⟩ | ⟨-, -, -, e⟩ := pinStep_next s.sample t e
  · exact nomatch h.standby.symm.trans hs
  · exact nomatch hrun.symm.trans hp
  · exact nomatch h.reset.symm.trans hr
  · simp only [stateStep, hrun, h.bus, Bool.false_eq_true, if_false] at e
    refine (runStep_next e).resolve_left fun ⟨hi, ha, _⟩ => ?_
    obtain h | h := h.request
    · exact nomatch (s.sample_intInhibit.trans h).symm.trans hi
    · exact ha h

/-- Settles O46: LDC, ANDC, ORC and XORC set the bit as they complete, every other sequence keeps it by
`Ends.intInhibit`; a whole step keeps it too, unless it handles a reset or runs an instruction, with the bit cleared. -/
theorem inhibitBit : Obligations.InhibitBit := by
  refine ⟨fun i s t hu e => exec_intInhibit hu e, fun s t _ e => (s.resetException_ends (c := {})).intInhibit rfl e,
    fun s t ret vec e => (exceptionEntry_ends s ret vec).intInhibit rfl e, fun s t hu e ht => ?_,
    fun s t i hr hd e => ?_⟩
  · obtain h | h | ⟨hp, e⟩ := step_intInhibit e
    · exact .inl (h.symm.trans ht)
    · exact .inr (.inl h)
    · obtain ⟨i, hd, hi⟩ := executeInstruction_intInhibit hu e
      exact .inr (.inr ⟨hp, i, hd, hi.symm.trans ht⟩)
  · obtain ⟨j, hj, hi⟩ := executeInstruction_intInhibit hr.undisturbed (hr.step_next e)
    rwa [Option.some.inj (hj.symm.trans hd)] at hi

end Sys2Proof.Machine
end

section
/-! ### State after reset, registers, odd addresses (O56, O57, O12, O8) -/

namespace Sys2Proof.Machine

/-- Settles O56: memory lists nothing, PC is 0, the CPU runs. -/
theorem resetHasInvariant : Obligations.ResetHasInvariant where
  mem := memWf_reset
  even := rfl
  normal := fun h => nomatch h
  reset := fun h => nomatch h

/-- Settles O57: the vector of a memory that lists nothing is 0, and so is the word there. -/
theorem resetValues : Obligations.ResetValues :=
  ⟨by decide, by decide, rfl, rfl, by decide⟩

/-! Views: a write to one is a write to its register. -/

theorem State.setReg8_er_same (s : State) (n : ERn) (half : ByteHalf) (b : Byte) :
    (s.setReg8 ⟨n, half⟩ b).er n = withByteView half (s.er n) b := s.er_setEr_same n _

theorem State.setReg16_er_same (s : State) (n : ERn) (half : WordHalf) (w : Word) :
    (s.setReg16 ⟨n, half⟩ w).er n = withWordView half (s.er n) w := s.er_setEr_same n _

/-- Settles O12, from the bits of each view and of a register with a view replaced. -/
theorem registerViews : Obligations.RegisterViews := by
  intro s n m b w k
  refine ⟨fun hk => ⟨byteView_getLsbD .l _ k hk, byteView_getLsbD .h _ k hk⟩,
    fun hk => ⟨wordView_getLsbD .r _ k hk, wordView_getLsbD .e _ k hk⟩, ?_, ?_, ?_, ?_,
    fun hm _ _ => ⟨s.er_setEr_other n m _ hm, s.er_setEr_other n m _ hm, fun v => s.er_setEr_other n m v hm⟩,
    s.er_setEr_same n⟩
  · rw [s.setReg8_er_same, withByteView_l_getLsbD]
  · rw [s.setReg8_er_same, withByteView_h_getLsbD]
  · rw [s.setReg16_er_same, withWordView_r_getLsbD]
  · rw [s.setReg16_er_same, withWordView_e_getLsbD]

/-! Word accesses see an address only through `evenAddr`, which is the same for the address rounded down. -/

theorem readWord_evenAddr (why : Config.ReadPurpose) (s : State) (a : Addr) (k : Word → State → Result) :
    readWord why s a k = readWord why s (evenAddr a) k := by
  simp only [readWord, checkRead16, State.read16, State.sawRead16, evenAddr_evenAddr]

theorem load32_evenAddr (s : State) (a : Addr) (k : Long → State → Result) :
    load32 s a k = load32 s (evenAddr a) k := by
  simp only [load32, evenAddr_evenAddr]

theorem store16_evenAddr (s : State) (a : Addr) (v : Word) (k : State → Result) :
    store16 s a v k = store16 s (evenAddr a) v k := by
  simp only [store16, State.write16, evenAddr_evenAddr]

theorem store32_evenAddr (s : State) (a : Addr) (v : Long) (k : State → Result) :
    store32 s a v k = store32 s (evenAddr a) v k := by
  simp only [store32, evenAddr_evenAddr]

theorem loadPointer_evenAddr (s : State) (a : Addr) (k : Addr → State → Result) :
    loadPointer s a k = loadPointer s (evenAddr a) k := by
  unfold loadPointer
  cases s.params.mode
  · exact readWord_evenAddr ..
  · exact load32_evenAddr ..

theorem evenAddr_and (a b : Addr) : evenAddr (a &&& b) = evenAddr a &&& b := by
  unfold evenAddr
  rw [BitVec.and_assoc, BitVec.and_comm b, ← BitVec.and_assoc]

theorem loadPc_evenAddr (s : State) (a : Addr) : s.loadPc a = s.loadPc (evenAddr a) := by
  unfold State.loadPc wrapPc
  cases s.params.mode
  · rw [evenAddr_and, evenAddr_and, evenAddr_evenAddr]
  · exact (evenAddr_evenAddr a).symm

/-- Settles O8: rounding down twice is rounding down once, and the physical address is a remainder. -/
theorem oddAddressesRoundDown : Obligations.OddAddressesRoundDown := by
  intro s a
  refine ⟨evenAddr_toNat a, readWord_evenAddr _ s a, load32_evenAddr s a, store16_evenAddr s a, store32_evenAddr s a,
    loadPointer_evenAddr s a, fun hu hr k => load8_of s a k hu hr, ?_, loadPc_evenAddr s a, loadPc_even s a,
    phys_normal s a, phys_advanced s a, fun hm h0 => ?_⟩
  · intro why
    simp only [State.read16, evenAddr_evenAddr]
  · rw [phys_advanced s a hm, h0]
    exact Nat.mod_eq_of_lt a.isLt

end Sys2Proof.Machine
end

section
/-! ### ADDX, SUBX, ADDS, SUBS (O20) -/

namespace Sys2Proof.Machine

/-- An instruction on registers, where the next word can be fetched. -/
theorem completes_of {i : Instr} {s : State} {len : Addr} {regs : RegFile} {ccr : Byte} (hu : s.undisturbed)
    (h : exec i s = goNext len { s with regs := regs, ccr := ccr }) : Completes i s len regs ccr := fun hf =>
  h.trans (goNext_of len { s with regs := regs, ccr := ccr } hu hf)

theorem cinNat_eq_toNat (b : Bool) : cinNat b = b.toNat := by cases b <;> rfl

/-- The flags of an addition, Z as given (R44, R200). -/
theorem ccrPut_z_ccrSum {w : Nat} (s : State) (d x r : BitVec w) (y z : Bool) :
    ccrPut (s.ccrSum d x r y) .z z = s.ccrSum d x r z := by
  apply ccr_ext
  intro f
  cases f <;> simp [State.ccrSum, State.ccrHNZVC]

theorem ccrPut_z_ccrDifference {w : Nat} (s : State) (d x r : BitVec w) (y z : Bool) :
    ccrPut (s.ccrDifference d x r y) .z z = s.ccrDifference d x r z := by
  apply ccr_ext
  intro f
  cases f <;> simp [State.ccrDifference, State.ccrHNZVC]

/-- CCR after ADDX: that of the addition, Z only ever cleared (R44, R200). -/
theorem keepZ_addFlags {w : Nat} (s : State) (d x : BitVec w) (c : Bool) (hw : 5 ≤ w) :
    keepZ s.ccr (addFlags s.ccr d x c) (addResult d x c) =
      s.ccrSum d x (addResult d x c) (s.flag .z && decide ((addResult d x c).toNat = 0)) := by
  rw [keepZ, addFlags_eq s d x c hw, ccrPut_z_ccrSum]
  simp only [BitVec.ofNat_eq_ofNat, bitVec_zero_iff, State.flag]

/-- CCR after SUBX likewise. -/
theorem keepZ_subFlags {w : Nat} (s : State) (d x : BitVec w) (c : Bool) (hw : 5 ≤ w) :
    keepZ s.ccr (subFlags s.ccr d x c) (subResult d x c) =
      s.ccrDifference d x (subResult d x c) (s.flag .z && decide ((subResult d x c).toNat = 0)) := by
  rw [keepZ, subFlags_eq s d x c hw, ccrPut_z_ccrDifference]
  simp only [BitVec.ofNat_eq_ofNat, bitVec_zero_iff, State.flag]

/-- An instruction that is `addx8` adds C in. -/
theorem writesByteReg_addx {i : Instr} {s : State} {rd : R8} {x : Byte} (hu : s.undisturbed)
    (h : exec i s = addx8 2 rd x s) :
    let r := s.reg8 rd + x + BitVec.ofNat 8 (s.flag .c).toNat
    WritesByteReg i s 2 rd r (s.ccrSum (s.reg8 rd) x r (s.flag .z && decide (r.toNat = 0))) := by
  rw [← cinNat_eq_toNat]
  exact completes_of hu (by rw [h, addx8, keepZ_addFlags s _ _ _ (by decide)]; rfl)

/-- An instruction that is `subx8` subtracts C too. -/
theorem writesByteReg_subx {i : Instr} {s : State} {rd : R8} {x : Byte} (hu : s.undisturbed)
    (h : exec i s = subx8 2 rd x s) :
    let r := s.reg8 rd - x - BitVec.ofNat 8 (s.flag .c).toNat
    WritesByteReg i s 2 rd r (s.ccrDifference (s.reg8 rd) x r (s.flag .z && decide (r.toNat = 0))) := by
  rw [← cinNat_eq_toNat]
  exact completes_of hu (by rw [h, subx8, keepZ_subFlags s _ _ _ (by decide)]; rfl)

/-- Settles O20: the arithmetic flags are the bitwise ones, and ADDS and SUBS write a register alone. -/
theorem carryAndAddressArithmetic : Obligations.CarryAndAddressArithmetic := by
  intro s hu
  exact ⟨fun _ _ => writesByteReg_addx hu rfl, fun _ _ => writesByteReg_addx hu rfl,
    fun _ _ => writesByteReg_subx hu rfl, fun _ _ => writesByteReg_subx hu rfl, fun _ => completes_of hu rfl,
    fun _ => completes_of hu rfl, fun _ => completes_of hu rfl, fun _ => completes_of hu rfl,
    fun _ => completes_of hu rfl, fun _ => completes_of hu rfl⟩

end Sys2Proof.Machine
end

section
/-! ### Memory and its map (O7, O10) -/

namespace Sys2Proof.Machine

section
variable {s : State} {a : Addr}

/-- A byte of RAM or ROM as the bus gives it. -/
theorem State.busByte_held {p : Nat} (h : kindAt s.params.map p = .ram ∨ ∃ w, kindAt s.params.map p = .rom w)
    (why : Config.ReadPurpose) : s.busByte why p = memLookup s.mem p := by
  unfold State.busByte
  obtain h | ⟨w, h⟩ := h <;> rw [h]

theorem State.busByte_ram (h : s.params.map = []) (why : Config.ReadPurpose) (p : Nat) :
    s.busByte why p = memLookup s.mem p := State.busByte_held (.inl (by rw [h, kindAt_nil])) why

theorem State.read8_ram (h : s.params.map = []) (why : Config.ReadPurpose) (a : Addr) :
    s.read8 why a = memLookup s.mem (s.phys a) := State.busByte_ram h why _

theorem State.read16_ram (h : s.params.map = []) (why : Config.ReadPurpose) (a : Addr) :
    s.read16 why a = memLookup s.mem (s.phys (evenAddr a)) ++ memLookup s.mem (s.phys (evenAddr a + 1)) := by
  rw [State.read16, State.read8_ram h, State.read8_ram h]

theorem ramWrite_nil (m : List Host.Cell) (p : Nat) (v : Byte) : ramWrite [] m p v = memWrite m p v := rfl

theorem State.memLookup_write8 (h : s.params.map = []) (a : Addr) (v : Byte) (p : Nat) :
    memLookup (s.write8 a v).mem p = if p = s.phys a then v else memLookup s.mem p := by
  rw [State.write8_mem, h, ramWrite_nil, memLookup_memWrite]

theorem State.memLookup_write16 (h : s.params.map = []) (a : Addr) (v : Word) (p : Nat) :
    memLookup (s.write16 a v).mem p = if p = s.phys (evenAddr a + 1) then v.extractLsb' 0 8
      else if p = s.phys (evenAddr a) then v.extractLsb' 8 8 else memLookup s.mem p := by
  rw [State.write16_mem, h, ramWrite_nil, ramWrite_nil, memLookup_memWrite, memLookup_memWrite]

theorem State.reads_ram (h : s.params.map = []) : s.readsComplete := fun a => by
  rw [State.canRead8, h]; rfl

theorem State.writes_ram (h : s.params.map = []) : s.writesComplete := fun a => by
  rw [State.canWrite8, h]; rfl

/-- Settles O7: RAM everywhere, so every byte is the one held and every write is kept; the two bytes of a word have
different addresses. -/
theorem memoryPrimitives : Obligations.MemoryPrimitives := by
  intro s a hm
  refine ⟨⟨s.read8_ram hm _ a, s.read16_ram hm _ a, ?_, ?_, ?_⟩, s.memLookup_write8 hm a, s.memLookup_write16 hm a,
    fun hu v => ?_, fun v => ⟨?_, ?_⟩⟩
  · rw [State.read32, s.sawRead16_ram _ hm]
  · rw [State.read16_ram hm, State.read16_ram hm]
  · rw [State.read16_ram hm, State.read16_ram hm]
  · have hw := s.writes_ram hm
    exact store32_of s a v .next hu ⟨⟨hw _, hw _⟩, hw _, hw _⟩
  · rw [State.read8_ram (s := s.write16 a v) hm, State.write16_phys, State.memLookup_write16 hm, phys_succ,
      if_neg (by omega), if_pos rfl]
  · rw [State.read8_ram (s := s.write16 a v) hm, State.write16_phys, State.memLookup_write16 hm, if_pos rfl]

/-! What a byte read and a byte write are at each kind of address (R80). -/

section
variable {map : List Region} {p : Nat}

theorem readFault_none (h : kindAt map p ≠ .unmapped .fault) : readFault map p = none := by
  unfold readFault
  split
  · exact absurd ‹_› h
  · rfl

theorem writeFault_none (hu : kindAt map p ≠ .unmapped .fault) (hr : kindAt map p ≠ .rom .fault) :
    writeFault map p = none := by
  unfold writeFault
  split
  · exact absurd ‹_› hr
  · exact absurd ‹_› hu
  · rfl

theorem readFault_unmapped (h : kindAt map p = .unmapped .fault) : readFault map p = some (.unmappedAccess p) := by
  rw [readFault, h]

theorem writeFault_unmapped (h : kindAt map p = .unmapped .fault) : writeFault map p = some (.unmappedAccess p) := by
  rw [writeFault, h]

theorem writeFault_rom (h : kindAt map p = .rom .fault) : writeFault map p = some (.romWrite p) := by
  rw [writeFault, h]

theorem ramWrite_of_ne (h : kindAt map p ≠ .ram) (m : List Host.Cell) (v : Byte) : ramWrite map m p v = m := by
  unfold ramWrite
  split
  · exact absurd ‹_› h
  all_goals rfl

end

theorem load8_fault {f : Fault} (hu : s.undisturbed) (h : readFault s.params.map (s.phys a) = some f)
    (k : Byte → State → Result) : load8 s a k = .fault f := by
  rw [load8, beforeAccess_of _ _ hu, checkRead, h]

theorem store8_fault {f : Fault} (hu : s.undisturbed) (h : writeFault s.params.map (s.phys a) = some f) (v : Byte)
    (k : State → Result) : store8 s a v k = .fault f := by
  rw [store8, beforeAccess_of _ _ hu, checkWrite, h]

/-- An access to a device is seen by it. -/
theorem State.tell_device (s : State) (e : Config.BusAccess) (h : concernsDevice s.params.map e = true) :
    s.tell e = { s with devLog := s.devLog ++ [e] } := by
  rw [State.tell, if_pos h]

/-- A byte read of no device leaves nothing. -/
theorem State.sawRead8_not_device (h : kindAt s.params.map (s.phys a) ≠ .device) : s.sawRead8 a = s :=
  s.tell_of_not_device _ (decide_eq_false h)

theorem State.sawRead8_device (h : kindAt s.params.map (s.phys a) = .device) :
    s.sawRead8 a = { s with devLog := s.devLog ++ [.readByte (s.phys a)] } :=
  s.tell_device _ (decide_eq_true h)

/-- A byte write to no device leaves what RAM keeps of it. -/
theorem State.write8_not_device (h : kindAt s.params.map (s.phys a) ≠ .device) (v : Byte) :
    s.write8 a v = { s with mem := ramWrite s.params.map s.mem (s.phys a) v } :=
  (s.writeByte (s.phys a) v).tell_of_not_device _ (decide_eq_false h)

theorem State.write8_device (h : kindAt s.params.map (s.phys a) = .device) (v : Byte) :
    s.write8 a v = { s with devLog := s.devLog ++ [.writeByte (s.phys a) v] } := by
  rw [State.write8, State.writeByte, ramWrite_of_ne (by rw [h]; decide)]
  exact s.tell_device _ (decide_eq_true h)

theorem load8_held (hu : s.undisturbed)
    (h : kindAt s.params.map (s.phys a) = .ram ∨ ∃ w, kindAt s.params.map (s.phys a) = .rom w)
    (k : Byte → State → Result) : load8 s a k = k (memLookup s.mem (s.phys a)) s := by
  rw [load8_of s a k hu (readFault_none (by obtain h | ⟨w, h⟩ := h <;> rw [h] <;> nofun)), State.read8,
    State.busByte_held h, State.sawRead8_not_device (by obtain h | ⟨w, h⟩ := h <;> rw [h] <;> nofun)]

theorem load8_unmapped (hu : s.undisturbed) (h : kindAt s.params.map (s.phys a) = .unmapped .complete)
    (k : Byte → State → Result) : load8 s a k = k (Config.openBus s.draws .data (s.phys a)) s := by
  rw [load8_of s a k hu (readFault_none (by rw [h]; decide)), State.read8, State.busByte, h,
    State.sawRead8_not_device (by rw [h]; decide)]

theorem load8_device (hu : s.undisturbed) (h : kindAt s.params.map (s.phys a) = .device) (k : Byte → State → Result) :
    load8 s a k = k (Config.deviceByte s.draws s.devLog (s.phys a))
      { s with devLog := s.devLog ++ [.readByte (s.phys a)] } := by
  rw [load8_of s a k hu (readFault_none (by rw [h]; decide)), State.read8, State.busByte, h, State.sawRead8_device h]

theorem store8_ignored (hu : s.undisturbed)
    (h : kindAt s.params.map (s.phys a) = .rom .complete ∨ kindAt s.params.map (s.phys a) = .unmapped .complete)
    (v : Byte) (k : State → Result) : store8 s a v k = k s := by
  obtain h | h := h <;>
    rw [store8_of s a v k hu (writeFault_none (by rw [h]; decide) (by rw [h]; decide)),
      State.write8_not_device (by rw [h]; decide), ramWrite_of_ne (by rw [h]; decide)]

theorem store8_ram (hu : s.undisturbed) (h : kindAt s.params.map (s.phys a) = .ram) (v : Byte) (k : State → Result) :
    store8 s a v k = k { s with mem := memWrite s.mem (s.phys a) v } := by
  rw [store8_of s a v k hu (writeFault_none (by rw [h]; decide) (by rw [h]; decide)),
    State.write8_not_device (by rw [h]; decide), ramWrite, h]

theorem store8_device (hu : s.undisturbed) (h : kindAt s.params.map (s.phys a) = .device) (v : Byte)
    (k : State → Result) : store8 s a v k = k { s with devLog := s.devLog ++ [.writeByte (s.phys a) v] } := by
  rw [store8_of s a v k hu (writeFault_none (by rw [h]; decide) (by rw [h]; decide)), State.write8_device h]

/-- Settles O10, kind by kind. -/
theorem regionAccesses : Obligations.RegionAccesses := fun _ _ v hu =>
  ⟨fun hk => ⟨load8_fault hu (readFault_unmapped hk), store8_fault hu (writeFault_unmapped hk) v⟩,
    fun hk => store8_fault hu (writeFault_rom hk) v, fun hk => store8_ignored hu hk v, fun hk => store8_ram hu hk v,
    fun hk => store8_device hu hk v, fun w hk => load8_held hu (hk.imp_right fun h => ⟨w, h⟩),
    fun hk => load8_unmapped hu hk, fun hk => load8_device hu hk⟩

end
end Sys2Proof.Machine
end

section
/-! ### Loads, and stores by @-ERd (O14, O17) -/

namespace Sys2Proof.Machine

section
variable {s : State} {len ea : Addr}

/-! Loads: past the instruction, the datum read, the register and the flags written. -/

theorem loadMov8_of (rd : R8) (hu : s.undisturbed) (hf : s.canFetch len) (hr : s.canRead8 ea) :
    loadMov8 len ea rd s = .next { (s.past len).sawRead8 ea with
      regs := (s.setReg8 rd ((s.past len).read8 .data ea)).regs
      ccr := s.ccrMoved ((s.past len).read8 .data ea) } := by
  rw [loadMov8, advance_of _ _ _ hu hf, load8_of (s.past len) ea _ hu hr, ← movFlags_eq]
  rfl

theorem loadMov16_of (rd : R16) (hu : s.undisturbed) (hf : s.canFetch len) (hr : s.canRead16 ea) :
    loadMov16 len ea rd s = .next { (s.past len).sawRead16 ea with
      regs := (s.setReg16 rd ((s.past len).read16 .data ea)).regs
      ccr := s.ccrMoved ((s.past len).read16 .data ea) } := by
  rw [loadMov16, advance_of _ _ _ hu hf, load16_of (s.past len) ea _ hu hr, ← movFlags_eq]
  rfl

theorem loadMov32_of (n : ERn) (hu : s.undisturbed) (hf : s.canFetch len) (hr : s.canRead32 ea) :
    loadMov32 len ea n s = .next { (s.past len).sawRead32 ea with
      regs := (s.setEr n ((s.past len).read32 ea)).regs
      ccr := s.ccrMoved ((s.past len).read32 ea) } := by
  rw [loadMov32, advance_of _ _ _ hu hf, load32_of (s.past len) ea _ hu hr, ← movFlags_eq]
  rfl

/-- MOVFPE's load, whichever of its two accesses comes first (R190). -/
theorem loadsByteEitherOrder_of {i : Instr} {rd : R8} (hu : s.undisturbed) (e : exec i s = loadPeripheral len ea rd s) :
    LoadsByteEitherOrder i s len ea rd := by
  intro hf hr
  rw [e, loadPeripheral, drawn_eq]
  cases s.free1 0 with
  | true =>
    rw [if_pos rfl, loadMov8_of rd hu hf hr]
    exact ⟨_, _, rfl, rfl, rfl, rfl, ⟨rfl, rfl, rfl, rfl, rfl, rfl⟩, rfl, .inl ⟨rfl, rfl, rfl⟩⟩
  | false =>
    rw [if_neg (by decide), load8_of s ea _ hu hr, goNext_of len ((s.sawRead8 ea).move8 rd (s.read8 .data ea)) hu hf]
    exact ⟨_, _, rfl, rfl, movFlags_eq s _, rfl, ⟨rfl, rfl, rfl, rfl, rfl, rfl⟩, rfl, .inr ⟨rfl, rfl, rfl⟩⟩

/-- Settles O14: each load is one of the four above, at its own length and effective address. -/
theorem loadFromMemory : Obligations.LoadFromMemory := by
  intro s hu
  refine ⟨fun _ rd => loadMov8_of rd hu, fun _ _ rd => loadMov8_of rd hu, fun _ _ rd => loadMov8_of rd hu,
    fun _ rd => loadMov8_of rd hu, fun _ rd => loadMov8_of rd hu, fun _ rd => loadMov8_of rd hu,
    fun hE a rd => loadsByteEitherOrder_of hu (if_pos hE), fun _ rd => loadMov16_of rd hu,
    fun _ _ rd => loadMov16_of rd hu, fun _ _ rd => loadMov16_of rd hu, fun _ rd => loadMov16_of rd hu,
    fun _ rd => loadMov16_of rd hu, fun _ n => loadMov32_of n hu, fun _ _ n => loadMov32_of n hu,
    fun _ _ n => loadMov32_of n hu, fun _ n => loadMov32_of n hu, fun _ n => loadMov32_of n hu⟩

/-! Stores. -/

/-- The accesses of a store made from `u`, which is `s1` with these registers and this CCR, write memory and the log of
the devices alone. -/
theorem completesStoring_of {i : Instr} {s1 u t : State} {regs : RegFile} {ccr : Byte}
    {accesses : List Config.BusAccess} (hu : u = { s1 with regs := regs, ccr := ccr })
    (ht : t = { u with mem := t.mem, devLog := t.devLog }) (h : u.Stored t accesses) (e : exec i s = .next t) :
    CompletesStoring i s s1 regs ccr accesses := by
  subst hu
  have hc : s1.SameControl t := by rw [ht]; exact ⟨rfl, rfl, rfl, rfl, rfl, rfl⟩
  refine ⟨t, e, ?_, ?_, ?_, ?_, hc, h.of_eq rfl rfl rfl rfl rfl rfl rfl rfl⟩ <;> rw [ht]

/-- The store of a value after which the registers are `regs` begins past the instruction, with CCR written. -/
theorem advance_storing (regs : RegFile) {w : Nat} (v : BitVec w) (hu : s.undisturbed) (hf : s.canFetch len)
    (k : State → Result) :
    advance len (State.withCcr { s with regs := regs } (movFlags s.ccr v)) k =
      k { s.past len with regs := regs, ccr := s.ccrMoved v } := by
  rw [movFlags_eq]
  exact advance_of len { s with regs := regs, ccr := s.ccrMoved v } k hu hf

theorem storesByte_of {i : Instr} {v : Byte} {regs : RegFile} (hu : s.undisturbed)
    (e : exec i s = storeMov8 len ea v { s with regs := regs }) : StoresByte i s len ea v regs := fun hf hw =>
  completesStoring_of rfl rfl (State.stored_write8 _ ea v) <| by
    rw [e, storeMov8, advance_storing regs v hu hf]
    exact store8_of { s.past len with regs := regs, ccr := s.ccrMoved v } ea v _ hu hw

theorem storesWord_of {i : Instr} {v : Word} {regs : RegFile} (hu : s.undisturbed)
    (e : exec i s = storeMov16 len ea v { s with regs := regs }) : StoresWord i s len ea v regs := fun hf hw =>
  completesStoring_of rfl rfl (State.stored_write16 _ ea v) <| by
    rw [e, storeMov16, advance_storing regs v hu hf]
    exact store16_of { s.past len with regs := regs, ccr := s.ccrMoved v } ea v _ hu hw

/-! @-ERd: the store begins with ERd decremented, which gives the address. -/

theorem State.eaAt_setEr_same (s : State) (n : ERn) (v : Long) : (s.setEr n v).eaAt n = low24 v := by
  rw [State.eaAt, s.er_setEr_same]

theorem storesByte_pre {i : Instr} {rs : R8} {n : ERn} (hu : s.undisturbed) (e : exec i s = storePre8 len rs n s) :
    let s1 := s.setEr n (s.er n - 1)
    StoresByte i s len (low24 (s.er n - 1)) (s1.reg8 rs) s1.regs := by
  rw [← s.eaAt_setEr_same n]
  exact storesByte_of hu e

theorem storesWord_pre {i : Instr} {rs : R16} {n : ERn} (hu : s.undisturbed) (e : exec i s = storePre16 len rs n s) :
    let s1 := s.setEr n (s.er n - 2)
    StoresWord i s len (low24 (s.er n - 2)) (s1.reg16 rs) s1.regs := by
  rw [← s.eaAt_setEr_same n]
  exact storesWord_of hu e

/-- A longword goes out in one order of its words or the other. -/
theorem storesLongAnyOrder_pre {i : Instr} {ers n : ERn} (hu : s.undisturbed) (e : exec i s = storePre32 len ers n s) :
    let s1 := s.setEr n (s.er n - 4)
    StoresLongAnyOrder i s len (low24 (s.er n - 4)) (s1.er ers) s1.regs := by
  rw [← s.eaAt_setEr_same n]
  intro s1 hf hw
  have e := e.trans (advance_storing s1.regs (s1.er ers) hu hf _)
  refine (store32AnyOrder_of { s.past len with regs := s1.regs, ccr := s.ccrMoved (s1.er ers) } (s1.eaAt n)
    (s1.er ers) .next hu hw).imp (fun ho => ?_) fun ho => ?_
  · exact completesStoring_of rfl rfl (State.stored_write32 _ _ _) (e.trans ho)
  · exact completesStoring_of rfl rfl (State.stored_write32LowFirst _ _ _) (e.trans ho)

/-- Settles O17: @-ERd of each size, and PUSH as @-ER7. -/
theorem storePreDecrement : Obligations.StorePreDecrement := fun _ hu =>
  ⟨fun _ _ => storesByte_pre hu rfl, fun _ _ => storesWord_pre hu rfl, fun _ _ => storesLongAnyOrder_pre hu rfl,
    fun _ => storesWord_pre hu rfl, fun _ => storesLongAnyOrder_pre hu rfl⟩

end
end Sys2Proof.Machine
end

section
/-! ### Branches, calls and returns (O32, O34, O35, O36) -/

namespace Sys2Proof.Machine

section
variable {i : Instr} {s : State}

/-! Conditional branches: both words are fetched, the condition decides between them. -/

theorem branchesShort_of (x : Cond) {disp : Addr} (hu : s.undisturbed) (e : exec i s = branchShort x disp s) :
    BranchesShort i s disp (condHolds x s.ccr) := by
  intro hf ht
  rw [e, branchShort, readWord_of _ _ _ _ hu hf, readWord_of _ (s.sawRead16 _) _ _ hu ht]
  show Host.Outcome.next (if condHolds x s.ccr = true then _ else _) = _
  cases condHolds x s.ccr <;> rfl

theorem branchesLong_of (x : Cond) {disp : Addr} (hu : s.undisturbed) (e : exec i s = branchLong x disp s) :
    BranchesLong i s disp (condHolds x s.ccr) := by
  intro ht
  refine ⟨fun hx => ?_, fun hx hf => ?_⟩
  · rw [e, branchLong, if_pos hx]
    exact fetchAt_of _ _ _ hu ht
  · rw [e, branchLong, if_neg (by rw [hx]; decide), drawn_eq, readWord_of _ _ _ _ hu ht,
      goNext_of 4 (s.sawRead16 _) hu hf, advance_of 4 s _ hu hf, readWord_of _ (s.past 4) _ _ hu ht]
    cases s.free1 0
    · exact .inr rfl
    · exact .inl rfl

/-- Settles O32: the two forms, for the condition of each mnemonic. -/
theorem conditionalBranches : Obligations.ConditionalBranches := by
  intro s hu
  exact ⟨fun _ => branchesShort_of .ra hu rfl, fun _ => branchesShort_of .rn hu rfl,
    fun _ => branchesShort_of .hi hu rfl, fun _ => branchesShort_of .ls hu rfl, fun _ => branchesShort_of .cc hu rfl,
    fun _ => branchesShort_of .cs hu rfl, fun _ => branchesShort_of .ne hu rfl, fun _ => branchesShort_of .eq hu rfl,
    fun _ => branchesShort_of .vc hu rfl, fun _ => branchesShort_of .vs hu rfl, fun _ => branchesShort_of .pl hu rfl,
    fun _ => branchesShort_of .mi hu rfl, fun _ => branchesShort_of .ge hu rfl, fun _ => branchesShort_of .lt hu rfl,
    fun _ => branchesShort_of .gt hu rfl, fun _ => branchesShort_of .le hu rfl, fun _ => branchesLong_of .ra hu rfl,
    fun _ => branchesLong_of .rn hu rfl, fun _ => branchesLong_of .hi hu rfl, fun _ => branchesLong_of .ls hu rfl,
    fun _ => branchesLong_of .cc hu rfl, fun _ => branchesLong_of .cs hu rfl, fun _ => branchesLong_of .ne hu rfl,
    fun _ => branchesLong_of .eq hu rfl, fun _ => branchesLong_of .vc hu rfl, fun _ => branchesLong_of .vs hu rfl,
    fun _ => branchesLong_of .pl hu rfl, fun _ => branchesLong_of .mi hu rfl, fun _ => branchesLong_of .ge hu rfl,
    fun _ => branchesLong_of .lt hu rfl, fun _ => branchesLong_of .gt hu rfl, fun _ => branchesLong_of .le hu rfl⟩

/-! Jumps and returns. -/

theorem State.canRead16_congr {t : State} (hp : t.params = s.params) (a : Addr) : t.canRead16 a ↔ s.canRead16 a := by
  simp only [State.canRead16, State.canRead8, State.phys, hp]

theorem State.loadPc_congr {t : State} (hp : t.params = s.params) (a : Addr) : t.loadPc a = s.loadPc a := by
  rw [State.loadPc, State.loadPc, hp]

/-- PC loaded at the end of a sequence that began at `s`. -/
theorem goTo_from {t : State} {a : Addr} (hp : t.params = s.params) (he : t.env = s.env) (hu : s.undisturbed)
    (h : s.canRead16 (s.loadPc a)) : goTo a t = .next (t.atPc (s.loadPc a)) := by
  rw [← s.loadPc_congr hp] at h ⊢
  exact goTo_of a t ((congrArg Env.slots he).trans hu) ((s.canRead16_congr hp _).mpr h)

/-- Settles O34: the fetch that is discarded, the pointer's read and the fetch of the target, in this order. -/
theorem jumps : Obligations.Jumps := by
  intro s hu
  refine ⟨fun n hf hp => ?_, fun a => goTo_of a s hu, fun a hf hq hp => ?_⟩
  · show execJmpAtERn n s = _
    rw [execJmpAtERn, discardNext_of s _ hu hf]
    exact goTo_of _ s.sawNext hu hp
  · show execJmpInd8 a s = _
    rw [execJmpInd8, discardNext_of s _ hu hf, loadPointer_of s.sawNext (eaPointer a) _ hu hq]
    exact goTo_from (s.sawNext.sawPointer_params _) (s.sawNext.sawPointer_env _) hu hp

theorem State.sawReturn_params (s : State) : s.sawReturn.params = s.params := by
  unfold State.sawReturn; cases s.params.mode <;> rfl

theorem State.sawReturn_env (s : State) : s.sawReturn.env = s.env := by
  unfold State.sawReturn; cases s.params.mode <;> rfl

theorem State.readsComplete.canPop (h : s.readsComplete) : s.canPop := by
  unfold State.canPop
  cases s.params.mode
  · exact ⟨h _, h _⟩
  · exact ⟨⟨h _, h _⟩, h _, h _⟩

/-- Settles O36: the address popped is read from the machine that has fetched and discarded the next word. -/
theorem subroutineReturn : Obligations.SubroutineReturn := by
  intro s hu hr
  have hpop : s.sawNext.canPop := State.readsComplete.canPop (s := s.sawNext) hr
  show execRts s = _
  rw [execRts, discardNext_of s _ hu ⟨hr _, hr _⟩, popPc_of s.sawNext _ hu hpop]
  exact goTo_from s.sawNext.sawReturn_params s.sawNext.sawReturn_env hu ⟨hr _, hr _⟩

/-! Calls. -/

/-- The target fetched, then the frame written, in a machine `s0` that is `s` but for what devices saw. -/
theorem calls_of {ret target : Addr} {log : List Config.BusAccess} (hu : s.undisturbed)
    (e : exec i s = call ret target { s with devLog := log }) : Calls i s { s with devLog := log } ret target := by
  intro ht hp
  let u : State := State.atPc { s with devLog := log } (s.loadPc target)
  have hcall : call ret target { s with devLog := log } = .next (u.pushed ret) :=
    (fetchAt_of { s with devLog := log } _ _ hu ht).trans (pushPc_of u ret _ hu hp)
  exact ⟨s.free8 0, _, e.trans hcall, State.pushed_regs _ ret, State.pushed_ccr _ ret, State.pushed_pc _ ret,
    State.pushed_pf _ ret, State.pushed_control _ ret, State.stored_pushed _ ret⟩

theorem State.sawPointer_eq (s : State) (a : Addr) : ∃ log, s.sawPointer a = { s with devLog := log } := by
  unfold State.sawPointer
  cases s.params.mode <;> exact ⟨_, rfl⟩

/-- JSR @@aa:8 after the fetch of the next word. -/
theorem callIndirect_of {ret q : Addr} (hu : s.undisturbed) (hq : s.canReadPointer q)
    (ht : s.canRead16 (s.loadPc (s.pointerAt q))) (hp : s.canPush) :
    callIndirect ret q s = .next (((s.sawPointer q).pushed ret).atPc (s.loadPc (s.pointerAt q))) := by
  rw [callIndirect, loadPointer_of s q _ hu hq]
  obtain ⟨log, hlog⟩ := s.sawPointer_eq q
  rw [hlog, pushPc_of { s with devLog := log } ret _ hu hp]
  have hc := State.pushed_control { s with devLog := log } ret
  exact goTo_from hc.params hc.env hu ht

/-- Settles O35: four forms are `call`, from the machine with the next word discarded or not; the fifth writes the frame
before it fetches. -/
theorem subroutineCalls : Obligations.SubroutineCalls := by
  intro s hu
  refine ⟨fun _ hf => calls_of hu (discardNext_of s _ hu hf), fun _ => calls_of hu rfl,
    fun _ hf => calls_of hu (discardNext_of s _ hu hf), fun _ => calls_of hu rfl, fun a hf hq ht hp => ?_⟩
  refine ⟨(s.sawNext.sawPointer (eaPointer a)).pushed (s.nextPc 2), s.free8 0,
    (discardNext_of s _ hu hf).trans (callIndirect_of (s := s.sawNext) hu hq ht hp), ?_⟩
  obtain ⟨log, hlog⟩ := s.sawNext.sawPointer_eq (eaPointer a)
  rw [← eaPointer, hlog]
  exact ⟨State.pushed_regs _ _, State.pushed_ccr _ _, { State.pushed_control { s.sawNext with devLog := log } _ with },
    State.stored_pushed { s.sawNext with devLog := log } _⟩

end
end Sys2Proof.Machine
end

section
/-! ### The bus released (O54) -/

namespace Sys2Proof.Machine

/-- With no pin asserted and the CPU not in hardware standby, a step is what the processing state says. -/
theorem step_of_no_pin {s : State} (hs : s.sample.env.stbyLow = false) (hr : s.sample.env.resLow = false)
    (hp : s.proc ≠ .hardwareStandby) : step s = stateStep s.sample := by
  rw [← s.sample_proc] at hp
  rw [step, machineStep, pinStep, if_neg (by rw [hs]; decide), if_neg hp, if_neg (by rw [hr]; decide)]

/-- While the bus is requested the step is the other masters' accesses. -/
theorem stateStep_busRequest {s : State} (hb : s.env.busRequest = true) (hp : s.proc = .run ∨ s.proc = .busReleased) :
    stateStep s = .next { s.otherMasters s.env.busAccesses with proc := .busReleased } := by
  obtain hp | hp := hp
  · rw [stateStep, hp]
    exact if_pos hb
  · rw [stateStep, hp]
    refine (if_pos hb).trans ?_
    rw [s.otherMasters_keeps, ← hp]

/-- Settles O54: `otherMasters` and the sampling of the inputs change none of the CPU's own registers. -/
theorem busRelease : Obligations.BusRelease := by
  intro s hs hr
  refine ⟨fun hb hp => ?_, fun hb hp => ?_⟩
  · refine ⟨_, (step_of_no_pin hs hr (by obtain hp | hp := hp <;> rw [hp] <;> decide)).trans
      (stateStep_busRequest hb (by rwa [s.sample_proc])), rfl, ?_⟩
    rw [s.sample.otherMasters_keeps, s.sample_keeps]
    exact ⟨rfl, rfl, rfl, rfl, rfl, rfl, rfl⟩
  · rw [step_of_no_pin hs hr (by rw [hp]; decide), stateStep, s.sample_proc, hp]
    exact if_neg (by rw [hb]; decide)

end Sys2Proof.Machine
end

section
/-! ### The word after an instruction that cannot be fetched (O11) -/

namespace Sys2Proof.Machine

section
variable {i : Instr} {s : State} {len ea a : Addr} {f : Fault}

theorem readFault_eq_unmappedAccess {map : List Region} {p : Nat} (h : readFault map p = some f) :
    f = .unmappedAccess p := by
  unfold readFault at h
  split at h
  · exact (Option.some.inj h).symm
  · exact nomatch h

/-! The operations that begin with the fetch. -/

theorem fetchAt_unreadable (k : State → Result) (hu : s.undisturbed) (h : s.unreadableWord a f) :
    fetchAt s a k = .fault f := readWord_unreadable _ _ _ _ f hu h

theorem discardNext_unreadable (k : State → Result) (hu : s.undisturbed) (h : s.unreadableWord (s.nextPc 2) f) :
    discardNext s k = .fault f := readWord_unreadable _ _ _ _ f hu h

theorem advance_unreadable (k : State → Result) (hu : s.undisturbed) (h : s.unreadableWord (s.nextPc len) f) :
    advance len s k = .fault f := fetchAt_unreadable k hu h

theorem goNext_unreadable (hu : s.undisturbed) (h : s.unreadableWord (s.nextPc len) f) : goNext len s = .fault f :=
  advance_unreadable _ hu h

section
variable (hu : s.undisturbed) (h : s.unreadableWord (s.nextPc len) f)
include hu h

theorem loadMov8_unreadable (rd : R8) : loadMov8 len ea rd s = .fault f := advance_unreadable _ hu h

theorem loadMov16_unreadable (rd : R16) : loadMov16 len ea rd s = .fault f := advance_unreadable _ hu h

theorem loadMov32_unreadable (n : ERn) : loadMov32 len ea n s = .fault f := advance_unreadable _ hu h

theorem loadPost8_unreadable (n : ERn) (rd : R8) : loadPost8 len n rd s = .fault f := advance_unreadable _ hu h

theorem loadPost16_unreadable (n : ERn) (rd : R16) : loadPost16 len n rd s = .fault f := advance_unreadable _ hu h

theorem loadPost32_unreadable (n m : ERn) : loadPost32 len n m s = .fault f := advance_unreadable _ hu h

theorem storeMov8_unreadable (v : Byte) : storeMov8 len ea v s = .fault f :=
  advance_unreadable (s := s.withCcr _) _ hu h

theorem storeMov16_unreadable (v : Word) : storeMov16 len ea v s = .fault f :=
  advance_unreadable (s := s.withCcr _) _ hu h

theorem storeMov32_unreadable (v : Long) : storeMov32 len ea v s = .fault f :=
  advance_unreadable (s := s.withCcr _) _ hu h

theorem storePre8_unreadable (rs : R8) (n : ERn) : storePre8 len rs n s = .fault f :=
  storeMov8_unreadable (s := s.setEr n _) hu h _

theorem storePre16_unreadable (rs : R16) (n : ERn) : storePre16 len rs n s = .fault f :=
  storeMov16_unreadable (s := s.setEr n _) hu h _

theorem storePre32_unreadable (m n : ERn) : storePre32 len m n s = .fault f :=
  advance_unreadable (s := (s.setEr n _).withCcr _) _ hu h

theorem ldcWord_unreadable : ldcWord len ea s = .fault f := advance_unreadable _ hu h

theorem ldcPost_unreadable (n : ERn) : ldcPost len n s = .fault f := advance_unreadable _ hu h

theorem stcWord_unreadable : stcWord len ea s = .fault f := advance_unreadable _ hu h

theorem stcPre_unreadable (n : ERn) : stcPre len n s = .fault f := stcWord_unreadable (s := s.setEr n _) hu h

theorem daa8_unreadable (rd : R8) : daa8 len rd s = .fault f := by
  unfold daa8
  dsimp only
  split
  · exact goNext_unreadable (s := (s.setReg8 rd _).withCcr _) hu h
  · exact goNext_unreadable (s := s.decimalUndefined rd) hu h

theorem das8_unreadable (rd : R8) : das8 len rd s = .fault f := by
  unfold das8
  dsimp only
  split
  · exact goNext_unreadable (s := (s.setReg8 rd _).withCcr _) hu h
  · exact goNext_unreadable (s := s.decimalUndefined rd) hu h

theorem bitWriteMem_unreadable (hr : s.canRead8 ea) (g : Byte → Byte) : bitWriteMem len ea g s = .fault f := by
  rw [bitWriteMem, load8_of s ea _ hu hr]
  exact advance_unreadable (s := s.sawRead8 ea) _ hu h

theorem bitReadMem_unreadable (hr : s.canRead8 ea) (g : Byte → Byte → Byte) : bitReadMem len ea g s = .fault f := by
  rw [bitReadMem, load8_of s ea _ hu hr]
  exact goNext_unreadable (s := (s.sawRead8 ea).withCcr _) hu h

/-- MOVFPE's load, whichever of its two accesses comes first. -/
theorem loadPeripheral_unreadable (hr : s.canRead8 ea) (rd : R8) : loadPeripheral len ea rd s = .fault f := by
  rw [loadPeripheral, drawn_eq, loadMov8_unreadable hu h, load8_of s ea _ hu hr,
    goNext_unreadable (s := (s.sawRead8 ea).move8 rd _) hu h, ite_self]

/-- MOVTPE's store likewise. -/
theorem storePeripheral_unreadable (hw : s.canWrite8 ea) (v : Byte) : storePeripheral len ea v s = .fault f := by
  rw [storePeripheral, drawn_eq, storeMov8_unreadable hu h, store8_of s ea v _ hu hw,
    goNext_unreadable (s := (s.write8 ea v).withCcr _) hu h, ite_self]

end

section
variable (hu : s.undisturbed) (h : s.unreadableWord (s.nextPc 2) f)
include hu h

theorem branchShort_unreadable (x : Cond) (disp : Addr) : branchShort x disp s = .fault f := by
  rw [branchShort]
  exact readWord_unreadable _ _ _ _ f hu h

theorem execJmpAtERn_unreadable (n : ERn) : execJmpAtERn n s = .fault f := discardNext_unreadable _ hu h

theorem execJmpInd8_unreadable (x : Byte) : execJmpInd8 x s = .fault f := discardNext_unreadable _ hu h

theorem execBsrD8_unreadable (x : Byte) : execBsrD8 x s = .fault f := discardNext_unreadable _ hu h

theorem execJsrAtERn_unreadable (n : ERn) : execJsrAtERn n s = .fault f := discardNext_unreadable _ hu h

theorem execJsrInd8_unreadable (x : Byte) : execJsrInd8 x s = .fault f := discardNext_unreadable _ hu h

theorem execRts_unreadable : execRts s = .fault f := discardNext_unreadable _ hu h

theorem execRte_unreadable : execRte s = .fault f := discardNext_unreadable _ hu h

theorem execTrapaImm2_unreadable (x : BitVec 2) : execTrapaImm2 x s = .fault f := discardNext_unreadable _ hu h

end

/-- An instruction whose first access is the fetch of the next word. -/
theorem exec_unreadable_of_fetchesNextFirst (hi : fetchesNextFirst i = true) (hu : s.undisturbed)
    (h : s.unreadableWord (s.nextPc (BitVec.ofNat 24 i.length)) f) : exec i s = .fault f := by
  cases i with
  | movBAtERsRd | movBD16ERsRd | movBD24ERsRd | movBAbs8Rd | movBAbs16Rd | movBAbs24Rd =>
    exact loadMov8_unreadable hu h _
  | movWAtERsRd | movWD16ERsRd | movWD24ERsRd | movWAbs16Rd | movWAbs24Rd => exact loadMov16_unreadable hu h _
  | movLAtERsERd | movLD16ERsERd | movLD24ERsERd | movLAbs16ERd | movLAbs24ERd => exact loadMov32_unreadable hu h _
  | movBPostERsRd => exact loadPost8_unreadable hu h _ _
  | movWPostERsRd | popWRn => exact loadPost16_unreadable hu h _ _
  | movLPostERsERd | popLERn => exact loadPost32_unreadable hu h _ _
  | movBRsAtERd | movBRsD16ERd | movBRsD24ERd | movBRsAbs8 | movBRsAbs16 | movBRsAbs24 =>
    exact storeMov8_unreadable hu h _
  | movWRsAtERd | movWRsD16ERd | movWRsD24ERd | movWRsAbs16 | movWRsAbs24 => exact storeMov16_unreadable hu h _
  | movLERsAtERd | movLERsD16ERd | movLERsD24ERd | movLERsAbs16 | movLERsAbs24 => exact storeMov32_unreadable hu h _
  | movBRsPreERd => exact storePre8_unreadable hu h _ _
  | movWRsPreERd | pushWRn => exact storePre16_unreadable hu h _ _
  | movLERsPreERd | pushLERn => exact storePre32_unreadable hu h _ _
  | ldcAtERsCcr | ldcD16ERsCcr | ldcD24ERsCcr | ldcAbs16Ccr | ldcAbs24Ccr => exact ldcWord_unreadable hu h
  | ldcPostERsCcr => exact ldcPost_unreadable hu h _
  | stcCcrAtERd | stcCcrD16ERd | stcCcrD24ERd | stcCcrAbs16 | stcCcrAbs24 => exact stcWord_unreadable hu h
  | stcCcrPreERd => exact stcPre_unreadable hu h _
  | daaRd => exact daa8_unreadable hu h _
  | dasRd => exact das8_unreadable hu h _
  | braD8 | brnD8 | bhiD8 | blsD8 | bccD8 | bcsD8 | bneD8 | beqD8 | bvcD8 | bvsD8 | bplD8 | bmiD8 | bgeD8 | bltD8
  | bgtD8 | bleD8 => exact branchShort_unreadable hu h _ _
  | jmpAtERn n => exact execJmpAtERn_unreadable hu h n
  | jmpInd8 x => exact execJmpInd8_unreadable hu h x
  | bsrD8 x => exact execBsrD8_unreadable hu h x
  | jsrAtERn n => exact execJsrAtERn_unreadable hu h n
  | jsrInd8 x => exact execJsrInd8_unreadable hu h x
  | rts => exact execRts_unreadable hu h
  | rte => exact execRte_unreadable hu h
  | trapaImm2 x => exact execTrapaImm2_unreadable hu h x
  | braD16 | brnD16 | bhiD16 | blsD16 | bccD16 | bcsD16 | bneD16 | beqD16 | bvcD16 | bvsD16 | bplD16 | bmiD16 | bgeD16
  | bltD16 | bgtD16 | bleD16 | bsrD16 | jmpAbs24 | jsrAbs24 | eepmovB | eepmovW | movfpeAbs16Rd | movtpeRsAbs16
  | bsetImm3AtERd | bsetRnAtERd | bclrImm3AtERd | bclrRnAtERd | bnotImm3AtERd | bnotRnAtERd | btstImm3AtERd
  | btstRnAtERd | bandImm3AtERd | biandImm3AtERd | borImm3AtERd | biorImm3AtERd | bxorImm3AtERd | bixorImm3AtERd
  | bldImm3AtERd | bildImm3AtERd | bstImm3AtERd | bistImm3AtERd | bsetImm3Abs8 | bsetRnAbs8 | bclrImm3Abs8
  | bclrRnAbs8 | bnotImm3Abs8 | bnotRnAbs8 | btstImm3Abs8 | btstRnAbs8 | bandImm3Abs8 | biandImm3Abs8 | borImm3Abs8
  | biorImm3Abs8 | bxorImm3Abs8 | bixorImm3Abs8 | bldImm3Abs8 | bildImm3Abs8 | bstImm3Abs8 | bistImm3Abs8 =>
    exact nomatch hi
  | _ =>
    refine goNext_unreadable ?_ ?_
    exacts [hu, h]

/-- A bit operation on memory, once its operand is read. -/
theorem exec_unreadable_of_bitOperand (hi : bitOperand s i = some ea) (hr : s.canRead8 ea) (hu : s.undisturbed)
    (h : s.unreadableWord (s.nextPc (BitVec.ofNat 24 i.length)) f) : exec i s = .fault f := by
  cases i with
  | bsetImm3AtERd | bsetImm3Abs8 | bsetRnAtERd | bsetRnAbs8 | bclrImm3AtERd | bclrImm3Abs8 | bclrRnAtERd | bclrRnAbs8
  | bnotImm3AtERd | bnotImm3Abs8 | bnotRnAtERd | bnotRnAbs8 | bstImm3AtERd | bstImm3Abs8 | bistImm3AtERd
  | bistImm3Abs8 =>
    obtain rfl := Option.some.inj hi
    exact bitWriteMem_unreadable hu h hr _
  | btstImm3AtERd | btstImm3Abs8 | btstRnAtERd | btstRnAbs8 | bandImm3AtERd | bandImm3Abs8 | biandImm3AtERd
  | biandImm3Abs8 | borImm3AtERd | borImm3Abs8 | biorImm3AtERd | biorImm3Abs8 | bxorImm3AtERd | bxorImm3Abs8
  | bixorImm3AtERd | bixorImm3Abs8 | bldImm3AtERd | bldImm3Abs8 | bildImm3AtERd | bildImm3Abs8 =>
    obtain rfl := Option.some.inj hi
    exact bitReadMem_unreadable hu h hr _
  | _ => exact nomatch hi

/-! EEPMOV: the fetch comes after the block. -/

/-- The bytes of the next `n` transfers can be read and written. -/
def State.canMove (s : State) (n : Nat) : Prop :=
  ∀ i, i < n → readFault s.params.map (s.blockSource i) = none ∧ writeFault s.params.map (s.blockTarget i) = none

theorem State.blockSource_zero (s : State) : s.blockSource 0 = s.phys (s.eaAt .er5) := by
  rw [State.blockSource, BitVec.add_zero]; rfl

theorem State.blockTarget_zero (s : State) : s.blockTarget 0 = s.phys (s.eaAt .er6) := by
  rw [State.blockTarget, BitVec.add_zero]; rfl

/-- A machine `t` with one byte transferred moves the rest of the block. -/
theorem State.canMove.tail {t : State} {n : Nat} (h : s.canMove (n + 1)) (hp : t.params = s.params)
    (h5 : t.er .er5 = s.er .er5 + 1) (h6 : t.er .er6 = s.er .er6 + 1) : t.canMove n := by
  have hadd (x : Long) (i : Nat) : x + 1 + BitVec.ofNat 32 i = x + BitVec.ofNat 32 (i + 1) := by
    rw [BitVec.add_assoc, Nat.add_comm i 1, BitVec.ofNat_add]
    rfl
  intro i hi
  have := h (i + 1) (by omega)
  rwa [State.blockSource, State.blockTarget, State.phys, State.phys, hp, h5, h6, hadd, hadd]

theorem transferByte_of_canMove {n : Nat} (k : State → Result) (hu : s.undisturbed) (h : s.canMove (n + 1)) :
    transferByte s k = k s.transferred := by
  obtain ⟨hr, hw⟩ := h 0 (by omega)
  rw [s.blockSource_zero] at hr
  rw [s.blockTarget_zero] at hw
  exact transferByte_of s k hu hr hw

theorem eepmovLoopB_unreadable (n : Nat) (hc : s.canMove n) (hu : s.undisturbed)
    (h : s.unreadableWord (s.nextPc 4) f) : eepmovLoopB n s = .fault f := by
  induction n generalizing s with
  | zero => exact goNext_unreadable hu h
  | succ n ih =>
    rw [eepmovLoopB, transferByte_of_canMove _ hu hc]
    exact ih (hc.tail rfl rfl rfl) hu h

theorem Env.rememberNmi_slots (e : Env) : e.rememberNmi.slots = e.slots := by
  unfold Env.rememberNmi
  split <;> rfl

/-- Cut short by NMI or not. -/
theorem eepmovLoopW_unreadable (n done : Nat) (hc : s.canMove n) (hu : s.undisturbed)
    (h : s.unreadableWord (s.nextPc 4) f) : eepmovLoopW n done s = .fault f := by
  induction n generalizing s done with
  | zero => exact goNext_unreadable hu h
  | succ n ih =>
    rw [eepmovLoopW, transferByte_of_canMove _ hu hc]
    dsimp only
    split
    · have hslots := (Env.rememberNmi_slots s.env).trans hu
      exact goNext_unreadable (s := { s.transferred.setReg16 r4 _ with env := s.env.rememberNmi }) hslots h
    · exact ih _ (hc.tail rfl rfl rfl) hu h

theorem execEepmovB_unreadable (hc : s.canTransfer (s.reg8 r4l).toNat) (hu : s.undisturbed)
    (h : s.unreadableWord (s.nextPc 4) f) : execEepmovB s = .fault f := by
  obtain ⟨h5, h6, hc⟩ := hc
  rw [execEepmovB, dummyReads_of s _ hu h5 h6]
  exact eepmovLoopB_unreadable _ hc hu h

theorem execEepmovW_unreadable (hc : s.canTransfer (s.reg16 r4).toNat) (hu : s.undisturbed)
    (h : s.unreadableWord (s.nextPc 4) f) : execEepmovW s = .fault f := by
  obtain ⟨h5, h6, hc⟩ := hc
  rw [execEepmovW, dummyReads_of s _ hu h5 h6]
  exact eepmovLoopW_unreadable _ _ hc hu h

/-- Settles O11: the fault is that of the fetch, wherever among the accesses the fetch stands. -/
theorem unreadableNextWordFaults : Obligations.UnreadableNextWordFaults := by
  intro s i f hu h
  refine ⟨?_, fun hi => exec_unreadable_of_fetchesNextFirst hi hu h,
    fun ea hi hr => exec_unreadable_of_bitOperand hi hr hu h, ?_, ?_, ?_, ?_⟩
  · obtain h | ⟨-, h⟩ := h <;> exact ⟨_, readFault_eq_unmappedAccess h⟩
  · rintro rfl hc
    exact execEepmovB_unreadable hc hu h
  · rintro rfl hc
    exact execEepmovW_unreadable hc hu h
  · rintro a rd rfl hE hr
    exact (if_pos hE).trans (loadPeripheral_unreadable hu h hr rd)
  · rintro rs a rfl hE hw
    exact (if_pos hE).trans (storePeripheral_unreadable hu h hw _)

end
end Sys2Proof.Machine
end

section
/-! ### Another master between the accesses of an instruction (O59) -/

namespace Sys2Proof.Machine

/-- BSET sets the bit (43_bit_manipulation R343): a bit that is 0 adds its weight. -/
theorem setBit_eq_withBit (n : BitVec 3) (v : Byte) : setBit n v = withBit n true v := by
  show v ||| BitVec.twoPow 8 n.toNat =
    BitVec.ofNat 8 (v.toNat - (v.getLsbD n.toNat).toNat * 2 ^ n.toNat + 1 * 2 ^ n.toNat)
  rw [Nat.one_mul]
  cases hv : v.getLsbD n.toNat with
  | true =>
    have hle : 2 ^ n.toNat ≤ v.toNat := Nat.ge_two_pow_of_testBit hv
    have hself : v ||| BitVec.twoPow 8 n.toNat = v := by
      apply BitVec.eq_of_getLsbD_eq
      intro k hk
      by_cases h : n.toNat = k
      · subst h; simp [hv]
      · simp [BitVec.getLsbD_twoPow, h]
    rw [hself, Bool.toNat_true, Nat.one_mul, Nat.sub_add_cancel hle, BitVec.ofNat_toNat, BitVec.setWidth_eq]
  | false =>
    have hand : v &&& BitVec.twoPow 8 n.toNat = 0#8 := by rw [BitVec.and_twoPow, hv]; rfl
    have htwo : BitVec.twoPow 8 n.toNat = BitVec.ofNat 8 (2 ^ n.toNat) := BitVec.eq_of_toNat_eq (BitVec.toNat_twoPow ..)
    rw [← BitVec.add_eq_or_of_and_eq_zero _ _ hand, Bool.toNat_false, Nat.zero_mul, Nat.sub_zero, BitVec.ofNat_add,
      BitVec.ofNat_toNat, BitVec.setWidth_eq, htwo]

section
variable {s : State} {len a ea : Addr}

/-! What other masters leave of a byte and of a word of RAM. -/

theorem State.read8_write8_same (h : s.params.map = []) (a : Addr) (v : Byte) :
    (s.write8 a v).read8 .data a = v := by
  rw [State.read8_ram (s := s.write8 a v) h, State.write8_phys, State.memLookup_write8 h, if_pos rfl]

theorem State.read8_otherMaster (h : s.params.map = []) (a : Addr) (v : Byte) :
    (s.otherMaster (.writeByte (s.phys a) v)).read8 .data a = v := by
  have e : s.otherMaster (.writeByte (s.phys a) v) = s.write8 a v := by
    rw [State.otherMaster, Nat.mod_eq_of_lt (phys_lt s a), State.write8]
  rw [e, State.read8_write8_same h]

theorem State.read16_otherMaster (h : s.params.map = []) (a : Addr) (w : Word) :
    (s.otherMaster (.writeWord (s.phys (evenAddr a)) w)).read16 .data a = w := by
  have e : s.otherMaster (.writeWord (s.phys (evenAddr a)) w) = s.write16 a w := by
    have heven := phys_even s a
    have hround : s.phys (evenAddr a) / 2 * 2 = s.phys (evenAddr a) := by omega
    rw [State.otherMaster, Nat.mod_eq_of_lt (phys_lt s _), hround, State.write16, phys_succ]
  rw [e, State.read16_ram (s := s.write16 a w) h, State.write16_phys, State.write16_phys, State.memLookup_write16 h,
    State.memLookup_write16 h, phys_succ, if_neg (by omega), if_pos rfl, if_pos rfl]
  exact (BitVec.extractLsb'_append_extractLsb'_eq_extractLsb' rfl).trans BitVec.extractLsb'_eq_self

/-! Accesses that no pin cuts short. -/

/-- No pin goes Low before an access of the step. -/
def State.uncut (s : State) : Prop := ∀ slot ∈ s.env.slots, slot.cut = none

/-- The machine as its next bus access finds it: what another master does before it is done. -/
def State.atAccess (s : State) : State :=
  match s.env.slots with
  | [] => s
  | slot :: rest => { s with env := { s.env with slots := rest } }.otherMasters slot.accesses

theorem State.disturbed_atAccess (s : State) : s.Disturbed s.atAccess := by
  unfold State.atAccess
  split
  · exact .refl s
  · exact s.disturbed_otherMasters _ _

theorem State.atAccess_slots (s : State) : s.atAccess.env.slots = s.env.slots.tail := by
  unfold State.atAccess
  split
  next h => rw [h]; rfl
  next h => rw [State.otherMasters_keeps, h]; rfl

theorem State.uncut.atAccess (h : s.uncut) : s.atAccess.uncut := fun slot hs => by
  rw [s.atAccess_slots] at hs
  exact h slot (List.mem_of_mem_tail hs)

theorem State.atAccess_map (h : s.params.map = []) : s.atAccess.params.map = [] := by
  rw [s.disturbed_atAccess.params, h]

theorem beforeAccess_uncut (hc : s.uncut) (k : State → Result) : beforeAccess s k = k s.atAccess := by
  rw [beforeAccess, State.atAccess]
  cases h : s.env.slots with
  | nil => rfl
  | cons slot rest =>
    have hslot : slot.cut = none := hc slot (by rw [h]; exact List.mem_cons_self)
    simp only [hslot]

theorem load8_uncut (hm : s.params.map = []) (hc : s.uncut) (k : Byte → State → Result) :
    load8 s a k = k (s.atAccess.read8 .data a) s.atAccess := by
  have hm := s.atAccess_map hm
  rw [load8, beforeAccess_uncut hc, checkRead_of _ _ _ (State.reads_ram hm a), State.sawRead8_ram _ _ hm]

theorem readWord_uncut (why : Config.ReadPurpose) (hm : s.params.map = []) (hc : s.uncut) (k : Word → State → Result) :
    readWord why s a k = k (s.atAccess.read16 why a) s.atAccess := by
  have hm := s.atAccess_map hm
  have hr := State.reads_ram hm
  rw [readWord, beforeAccess_uncut hc, checkRead16_of _ _ _ ⟨hr _, hr _⟩, State.sawRead16_ram _ _ hm]

theorem store8_uncut (hm : s.params.map = []) (hc : s.uncut) (v : Byte) (k : State → Result) :
    store8 s a v k = k (s.atAccess.write8 a v) := by
  rw [store8, beforeAccess_uncut hc, checkWrite_of _ _ _ (State.writes_ram (s.atAccess_map hm) a)]

/-- The machine with this PC and this prefetched word. -/
def State.withFetched (s : State) (pc : Addr) (pf : Word) : State := { s with pc := pc, pf := pf }

theorem State.withFetched_read16 (s : State) (pc : Addr) (pf : Word) (why : Config.ReadPurpose) (a : Addr) :
    (s.withFetched pc pf).read16 why a = s.read16 why a := rfl

/-- What other masters do has nothing to do with PC and the prefetched word. -/
theorem State.withFetched_otherMasters (s : State) (pc : Addr) (pf : Word) (es : List Config.BusAccess) :
    (s.withFetched pc pf).otherMasters es = (s.otherMasters es).withFetched pc pf := by
  induction es generalizing s with
  | nil => rfl
  | cons e es ih =>
    have he : (s.withFetched pc pf).otherMaster e = (s.otherMaster e).withFetched pc pf := by cases e <;> rfl
    exact (congrArg (State.otherMasters · es) he).trans (ih (s.otherMaster e))

theorem State.withFetched_atAccess (s : State) (pc : Addr) (pf : Word) :
    (s.withFetched pc pf).atAccess = s.atAccess.withFetched pc pf := by
  rw [State.atAccess, State.atAccess, State.withFetched]
  cases s.env.slots with
  | nil => rfl
  | cons slot rest =>
    exact State.withFetched_otherMasters { s with env := { s.env with slots := rest } } pc pf slot.accesses

theorem advance_uncut (hm : s.params.map = []) (hc : s.uncut) (k : State → Result) :
    ∃ pc pf, advance len s k = k (s.atAccess.withFetched pc pf) :=
  ⟨s.nextPc len, s.atAccess.read16 .prefetch (s.nextPc len), by
    rw [advance, fetchAt, readWord_uncut .prefetch hm hc]; rfl⟩

/-- A bit operation modifies the byte as its read finds it; what is done there later is overwritten. -/
theorem bitWriteMem_uncut (hm : s.params.map = []) (hc : s.uncut) (f : Byte → Byte) :
    ∃ t, bitWriteMem len ea f s = .next t ∧ t.read8 .data ea = f (s.atAccess.read8 .data ea) := by
  have hm1 := State.atAccess_map hm
  obtain ⟨pc, pf, e⟩ := advance_uncut (len := len) hm1 hc.atAccess fun u =>
    store8 u ea (f (s.atAccess.read8 .data ea)) .next
  have hm2 : (s.atAccess.atAccess.withFetched pc pf).params.map = [] := State.atAccess_map hm1
  rw [bitWriteMem, load8_uncut hm hc, e, store8_uncut hm2 hc.atAccess.atAccess]
  exact ⟨_, rfl, State.read8_write8_same (State.atAccess_map hm2) ..⟩

/-- A longword load fetches, then takes each of its words as that word's read finds it. -/
theorem loadMov32_uncut (hm : s.params.map = []) (hc : s.uncut) (n : ERn) :
    ∃ t, loadMov32 len ea n s = .next t ∧
      t.er n = s.atAccess.atAccess.read16 .data (evenAddr ea) ++
        s.atAccess.atAccess.atAccess.read16 .data (evenAddr ea + 2) := by
  obtain ⟨pc, pf, e⟩ := advance_uncut (len := len) hm hc fun u => load32 u ea fun v u => .next (u.move32 n v)
  have hm1 : (s.atAccess.withFetched pc pf).params.map = [] := State.atAccess_map hm
  have hc1 : (s.atAccess.withFetched pc pf).uncut := hc.atAccess
  rw [loadMov32, e, load32, load16, readWord_uncut _ hm1 hc1, load16,
    readWord_uncut _ (State.atAccess_map hm1) hc1.atAccess, State.withFetched_atAccess,
    State.withFetched_atAccess, State.withFetched_read16, State.withFetched_read16]
  exact ⟨_, rfl, State.er_setEr_same ..⟩

/-! The two instructions, with these slots before their accesses. -/

/-- The machine with these slots before the bus accesses of the step. -/
def State.withSlots (s : State) (slots : List BusSlot) : State := { s with env := { s.env with slots := slots } }

/-- BSET @ERd sets the bit in the byte as its read finds it. -/
theorem bset_withSlots {slots : List BusSlot} {n : BitVec 3} {erd : ERn} {v : Byte} (hm : s.params.map = [])
    (hc : (s.withSlots slots).uncut) (hv : (s.withSlots slots).atAccess.read8 .data (s.eaAt erd) = v) :
    ∃ t, exec (.bsetImm3AtERd n erd) (s.withSlots slots) = .next t ∧ t.read8 .data (s.eaAt erd) = withBit n true v := by
  rw [← hv, ← setBit_eq_withBit]
  exact bitWriteMem_uncut (s := s.withSlots slots) hm hc (setBit n)

theorem State.withSlots_atAccess (s : State) (slot : BusSlot) (rest : List BusSlot) :
    (s.withSlots (slot :: rest)).atAccess = (s.withSlots rest).otherMasters slot.accesses := rfl

/-- MOV.L @ERs,ERd takes as its second word the one written just before the third access, as its first the old one. -/
theorem movl_withSlots {ers erd : ERn} (hm : s.params.map = []) (w : Word) :
    ∃ t, exec (.movLAtERsERd ers erd) (s.withSlots [⟨[], none⟩, ⟨[], none⟩,
        ⟨[.writeWord (s.phys (evenAddr (s.eaAt ers) + 2)) w], none⟩]) = .next t ∧
      t.er erd = s.read16 .data (s.eaAt ers) ++ w := by
  obtain ⟨t, ht, hr⟩ := loadMov32_uncut (len := 4) (ea := s.eaAt ers) (n := erd) (s := s.withSlots
    [⟨[], none⟩, ⟨[], none⟩, ⟨[.writeWord (s.phys (evenAddr (s.eaAt ers) + 2)) w], none⟩]) hm
    (by simp [State.uncut, State.withSlots])
  have hfirst : (s.withSlots [⟨[.writeWord (s.phys (evenAddr (s.eaAt ers) + 2)) w], none⟩]).read16 .data
      (evenAddr (s.eaAt ers)) = s.read16 .data (s.eaAt ers) := by
    rw [State.read16, evenAddr_evenAddr]; rfl
  have hsecond := State.read16_otherMaster (s := s.withSlots []) hm (evenAddr (s.eaAt ers) + 2) w
  rw [evenAddr_add_two, evenAddr_evenAddr] at hsecond
  refine ⟨t, ht, hr.trans ?_⟩
  simp only [State.withSlots_atAccess, State.otherMasters, List.foldl_nil, List.foldl_cons]
  exact congrArg₂ (· ++ ·) hfirst hsecond

/-- Settles O59: BSET's first access is the read, MOV.L's the fetch of the next word. -/
theorem accessInterleaving : Obligations.AccessInterleaving := fun s _ _ _ v w hm =>
  ⟨bset_withSlots hm (by simp [State.uncut, State.withSlots]) (State.read8_otherMaster (s := s.withSlots []) hm _ v),
    bset_withSlots hm (by simp [State.uncut, State.withSlots]) rfl,
    bset_withSlots hm (by simp [State.uncut, State.withSlots]) rfl, movl_withSlots hm w⟩

end
end Sys2Proof.Machine
end

section
/-! ### Codes written and read back (O1, O2, O3, O4) -/

namespace Sys2Proof

/-! The words of a code. -/

theorem encodeNibs_length (i : Instr) : (encodeNibs i).length = 2 * i.length := by
  cases i <;> rfl

theorem codeLength_mem (ns : List Nib) : codeLength ns ∈ [2, 4, 6, 8, 10] := by
  unfold codeLength
  (repeat' split) <;> decide

/-- A code has one word and at most four more (R101). -/
theorem codeLength_eq (ns : List Nib) : ∃ n, n ≤ 4 ∧ codeLength ns = 2 * (1 + n) := by
  have h := codeLength_mem ns
  simp only [List.mem_cons, List.not_mem_nil, or_false] at h
  exact ⟨codeLength ns / 2 - 1, by omega, by omega⟩

theorem Instr.length_eq (i : Instr) : ∃ n, n ≤ 4 ∧ i.length = 2 * (1 + n) := by
  rw [← codeLength_encodeNibs i []]
  exact codeLength_eq _

theorem encodeNibs_length_words (i : Instr) : (encodeNibs i).length = 4 * (i.length / 2) := by
  obtain ⟨n, -, h⟩ := i.length_eq
  rw [encodeNibs_length]
  omega

theorem flatMap_encode (i : Instr) : (encode i).flatMap nibs16 = encodeNibs i :=
  unpack_packWords _ _ (encodeNibs_length_words i)

theorem flatMap_nibs16_length (ws : List Word) : (ws.flatMap nibs16).length = 4 * ws.length := by
  induction ws with
  | nil => rfl
  | cons w ws ih =>
    rw [List.flatMap_cons, List.length_append, ih, List.length_cons, Nat.mul_succ, Nat.add_comm]
    rfl

theorem encode_length (i : Instr) : (encode i).length = i.length / 2 := by
  have h := flatMap_nibs16_length (encode i)
  rw [flatMap_encode, encodeNibs_length_words] at h
  omega

/-- Words taken apart into digits are put together again, whatever digits stand after them. -/
theorem packWords_flatMap_append (ws : List Word) (rest : List Nib) :
    packWords (ws.flatMap nibs16 ++ rest) = ws ++ packWords rest := by
  induction ws with
  | nil => rfl
  | cons w ws ih => rw [List.flatMap_cons, List.append_assoc, packWords_nibs16, ih, List.cons_append]

theorem nibs24_append (x : Byte) (y : Word) : nibs24 (x ++ y) = nibs8 x ++ nibs16 y := by
  rw [nibs24, upper_append, lower_append]

theorem nibs32_append (x y : Word) : nibs32 (x ++ y) = nibs16 x ++ nibs16 y := by
  rw [nibs32, upper_append, lower_append]

/-! Decoding what the encoder writes. -/

/-- A register in the last digit of a code is read back. -/
theorem low3_encLow3_ofBits (f : ERn → Instr) (n : ERn) :
    low3 (encLow3 n.bits) (fun x => some (f (ERn.ofBits x))) = some (f n) := by
  rw [low3_encLow3, ERn.ofBits_bits]

theorem some_ofNib_nib (f : R16 → Instr) (r : R16) : some (f (R16.ofNib r.nib)) = some (f r) := by
  rw [R16.ofNib_nib]

/-- Field by field, each read as it was written. In the rows named first the digit of one register field also tells the
row from another: POP and PUSH stand before @ER7+ and @-ER7 (R128), and a digit 0 stands before `1ers`. There the
register has to be known before the decoder goes on. -/
theorem decodeNibs_encodeNibs (i : Instr) (rest : List Nib) (hw : i.wellFormed = true) :
    decodeNibs (encodeNibs i ++ rest) = some i := by
  cases i with
  | movLERsERd ers erd => cases ers <;> exact low3_encLow3_ofBits (.movLERsERd _) erd
  | addLERsERd ers erd => cases ers <;> exact low3_encLow3_ofBits (.addLERsERd _) erd
  | subLERsERd ers erd => cases ers <;> exact low3_encLow3_ofBits (.subLERsERd _) erd
  | cmpLERsERd ers erd => cases ers <;> exact low3_encLow3_ofBits (.cmpLERsERd _) erd
  | movWPostERsRd ers rd =>
    cases ers with
    | er7 => exact nomatch hw
    | _ => exact some_ofNib_nib (.movWPostERsRd _) rd
  | movWRsPreERd rs erd =>
    cases erd with
    | er7 => exact nomatch hw
    | _ => exact some_ofNib_nib (.movWRsPreERd · _) rs
  | movLPostERsERd ers erd =>
    cases ers with
    | er7 => exact nomatch hw
    | _ => exact low3_encLow3_ofBits (.movLPostERsERd _) erd
  | movLERsPreERd ers erd =>
    cases erd with
    | er7 => exact nomatch hw
    | _ => exact low3_encLow3_ofBits (.movLERsPreERd · _) ers
  | _ =>
    unfold encodeNibs
    simp only [List.cons_append, List.nil_append, List.append_assoc]
    simp only [decodeNibs, decode0, decode01, decode010, decode01006, decode014, decode01406, decode0B, decode1,
      decode17, decode1B, decode4, decode5, decode58, decode6, decode7, decode79, decode7A, decode7C, decode7D,
      decode7E, decode7F, ↓nib_cons, ↓lit_cons, ↓reduceIte, ↓low3_encLow3, ↓split3_encLow3, ↓split3_encHigh3,
      ↓low2_encLow2, ↓ext8_nibs8, ↓ext16_nibs16, ↓ext24_nibs24, ↓ext32_nibs32, R8.ofNib_nib, R16.ofNib_nib,
      ERn.ofBits_bits]

theorem decode_encode {i : Instr} (hw : i.wellFormed = true) (rest : List Word) :
    decode (encode i ++ rest) = some i := by
  rw [decode_encode_append i rest _ (encodeNibs_length_words i), decodeNibs_encodeNibs i _ hw]

/-- Settles O1, by reading back each field that the encoder writes. -/
theorem decodeAfterEncode : Obligations.DecodeAfterEncode := fun _ rest hw => decode_encode hw rest

/-! Encoding what the decoder reads: a rule for each reader says which digits it has read. -/

/-- What `p` reads is well formed, and its code begins the digits read, `done`, and those left, `ns`. -/
def Spells (done ns : List Nib) (p : Option Instr) : Prop :=
  ∀ i, p = some i → i.wellFormed = true ∧ encodeNibs i <+: done ++ ns

section
variable {done ns : List Nib}

theorem Spells.none : Spells done ns none := fun _ h => nomatch h

theorem Spells.some {i : Instr} (hw : i.wellFormed = true) (h : encodeNibs i = done) :
    Spells done ns (some i) := fun _ e => by
  cases e; exact ⟨hw, h ▸ List.prefix_append _ _⟩

theorem Spells.nib {k : Nib → List Nib → Option Instr} (h : ∀ n ms, Spells (done ++ [n]) ms (k n ms)) :
    Spells done ns (nib ns k) := by
  cases ns with
  | nil => exact .none
  | cons n ms => intro i e; simpa using h n ms i e

theorem Spells.lit {x : Nib} {k : List Nib → Option Instr} (h : ∀ ms, Spells (done ++ [x]) ms (k ms)) :
    Spells done ns (lit x ns k) := by
  refine .nib fun n ms => ?_
  split
  next e => exact e ▸ h ms
  next => exact .none

theorem Spells.low3 {n : Nib} {k : BitVec 3 → Option Instr} (h : ∀ x, Spells (done ++ [encLow3 x]) ns (k x)) :
    Spells (done ++ [n]) ns (low3 n k) := by
  cases n <;> first | exact h _ | exact .none

theorem Spells.high3 {n : Nib} {k : BitVec 3 → Option Instr} (h : ∀ x, Spells (done ++ [encHigh3 x]) ns (k x)) :
    Spells (done ++ [n]) ns (high3 n k) := by
  cases n <;> first | exact h _ | exact .none

theorem Spells.split3 {n : Nib} {k l : BitVec 3 → Option Instr} (hk : ∀ x, Spells (done ++ [encLow3 x]) ns (k x))
    (hl : ∀ x, Spells (done ++ [encHigh3 x]) ns (l x)) : Spells (done ++ [n]) ns (split3 n k l) := by
  cases n <;> first | exact hk _ | exact hl _

/-- Where the rows of POP and PUSH stand before it, the field names a register other than ER7 (R128). -/
theorem Spells.split3_of_ne_er7 {n : Nib} {k l : BitVec 3 → Option Instr} (h7 : n ≠ .n7) (hF : n ≠ .nF)
    (hk : ∀ x, (ERn.ofBits x != .er7) = true → Spells (done ++ [encLow3 x]) ns (k x))
    (hl : ∀ x, (ERn.ofBits x != .er7) = true → Spells (done ++ [encHigh3 x]) ns (l x)) :
    Spells (done ++ [n]) ns (Sys2Proof.split3 n k l) := by
  cases n <;> first | exact absurd rfl h7 | exact absurd rfl hF | exact hk _ rfl | exact hl _ rfl

theorem Spells.low2 {n : Nib} {k : BitVec 2 → Option Instr} (h : ∀ x, Spells (done ++ [encLow2 x]) ns (k x)) :
    Spells (done ++ [n]) ns (low2 n k) := by
  cases n <;> first | exact h _ | exact .none

theorem Spells.ext8 {k : Byte → List Nib → Option Instr} (h : ∀ x ms, Spells (done ++ nibs8 x) ms (k x ms)) :
    Spells done ns (ext8 ns k) := by
  match ns with
  | [] | [_] => exact .none
  | a :: b :: ms => intro i e; simpa using h (byteOf a b) ms i e

theorem Spells.ext16 {k : Word → Option Instr} (h : ∀ x ms, Spells (done ++ nibs16 x) ms (k x)) :
    Spells done ns (ext16 ns k) := by
  match ns with
  | [] | [_] | [_, _] | [_, _, _] => exact .none
  | a :: b :: c :: d :: ms => intro i e; simpa using h (wordOf a b c d) ms i e

theorem Spells.ext24 {k : Addr → Option Instr} (h : ∀ x ms, Spells (done ++ nibs24 x) ms (k x)) :
    Spells done ns (ext24 ns k) := by
  match ns with
  | [] | [_] | [_, _] | [_, _, _] | [_, _, _, _] | [_, _, _, _, _] => exact .none
  | a :: b :: c :: d :: e :: f :: ms =>
    intro i he; simpa [nibs24_append] using h (byteOf a b ++ wordOf c d e f) ms i he

theorem Spells.ext32 {k : Long → Option Instr} (h : ∀ x ms, Spells (done ++ nibs32 x) ms (k x)) :
    Spells done ns (ext32 ns k) := by
  match ns with
  | [] | [_] | [_, _] | [_, _, _] | [_, _, _, _] | [_, _, _, _, _] | [_, _, _, _, _, _]
  | [_, _, _, _, _, _, _] => exact .none
  | a :: b :: c :: d :: e :: f :: g :: h' :: ms =>
    intro i he; simpa [nibs32_append] using h (wordOf a b c d ++ wordOf e f g h') ms i he

end

/-- The decoder is a tree of the readers above. At a leaf the digits read are those of the code, and the term is well
formed, by definition or because the field does not name ER7. -/
theorem decodeNibs_spells (ns : List Nib) : Spells [] ns (decodeNibs ns) := by
  repeat' with_reducible first
    | refine .nib fun _ _ => ?_ | refine .lit fun _ => ?_ | refine .low3 fun _ => ?_
    | refine .split3_of_ne_er7 ‹_› ‹_› (fun _ _ => ?_) fun _ _ => ?_
    | refine .split3 (fun _ => ?_) fun _ => ?_ | refine .high3 fun _ => ?_ | refine .low2 fun _ => ?_
    | refine .ext8 fun _ _ => ?_ | refine .ext16 fun _ _ => ?_ | refine .ext24 fun _ _ => ?_
    | refine .ext32 fun _ _ => ?_ | exact .none
    | refine .some ?_ ?_
    | split
    | delta decodeNibs decode0 decode01 decode010 decode01006 decode014 decode01406 decode0B decode1 decode17
        decode1B decode4 decode5 decode58 decode6 decode7 decode79 decode7A decode7C decode7D decode7E decode7F
  all_goals first
    | unfold encodeNibs
      simp only [R8.nib_ofNib, R16.nib_ofNib, ERn.bits_ofBits, List.nil_append, List.cons_append, List.append_assoc]
    | rfl
    | assumption

/-- The digits of the words decoded begin with those of the code. -/
theorem decode_digits {ws : List Word} {i : Instr} (h : decode ws = some i) :
    i.wellFormed = true ∧ ∃ rest, ws.flatMap nibs16 = encodeNibs i ++ rest := by
  obtain ⟨hw, rest, hrest⟩ := decodeNibs_spells _ i h
  exact ⟨hw, rest, hrest.symm⟩

/-- The words decoded begin with those of the code. -/
theorem exists_of_decode {ws : List Word} {i : Instr} (h : decode ws = some i) :
    i.wellFormed = true ∧ ∃ rest, ws = encode i ++ rest := by
  obtain ⟨hw, rest, hrest⟩ := decode_digits h
  refine ⟨hw, packWords rest, ?_⟩
  calc
    ws = packWords (ws.flatMap nibs16 ++ []) := by rw [packWords_flatMap_append]; exact (List.append_nil ws).symm
    _ = packWords ((encode i).flatMap nibs16 ++ rest) := by rw [List.append_nil, hrest, flatMap_encode]
    _ = encode i ++ packWords rest := packWords_flatMap_append ..

/-- Settles O2, from the rules for what each reader has read. -/
theorem encodeAfterDecode : Obligations.EncodeAfterDecode := by
  intro ws i h
  obtain ⟨hw, rest, rfl⟩ := exists_of_decode h
  exact ⟨hw, (List.take_left' (encode_length i)).symm⟩

/-! Codes that begin as R126 lists. -/

section
open Machine

@[simp] theorem isLowNib_encLow3 (x : BitVec 3) : isLowNib (encLow3 x) = true := by
  obtain rfl | rfl | rfl | rfl | rfl | rfl | rfl | rfl := bitVec3_cases x <;> rfl

@[simp] theorem isLowNib_encHigh3 (x : BitVec 3) : isLowNib (encHigh3 x) = false := by
  obtain rfl | rfl | rfl | rfl | rfl | rfl | rfl | rfl := bitVec3_cases x <;> rfl

/-- A code that begins as R126 lists goes on as R127 does. -/
theorem listedWithPrefix_encodeNibs (i : Instr) (rest : List Nib) (h : hasPrefix (encodeNibs i ++ rest) = true) :
    listedWithPrefix (encodeNibs i ++ rest) = true := by
  cases i with
  | eepmovB | eepmovW => rfl
  | _ =>
    first
    | exact absurd h Bool.false_ne_true
    | unfold encodeNibs
      simp only [nibs8, List.cons_append, List.nil_append]
      unfold listedWithPrefix
      simp only [readsBit, writesBit, isLowNib_encLow3, isLowNib_encHigh3, BEq.rfl, Bool.or_true, Bool.true_or,
        Bool.and_self, Bool.not_false]

/-- Settles O4: what is decoded is some instruction's code, and a code that begins as R126 lists goes on as R127 does. -/
theorem prefixFollowers : Obligations.PrefixFollowers := by
  intro ws hp hl
  refine Option.eq_none_iff_forall_ne_some.mpr fun i hi => ?_
  obtain ⟨-, rest, hrest⟩ := decode_digits hi
  rw [hrest] at hp hl
  exact absurd (listedWithPrefix_encodeNibs i rest hp) (by simp [hl])

end

/-- Settles O3, by decoding the ten words. -/
theorem writtenWordsDecode : Obligations.WrittenWordsDecode :=
  ⟨rfl, rfl, rfl, rfl, rfl, rfl, rfl, rfl, rfl, rfl⟩

end Sys2Proof
end

section
/-! ### Loads with post-increment (O15) -/

namespace Sys2Proof.Machine

section
variable {s : State} {len : Addr}

theorem loadPost8_of (n : ERn) (rd : R8) (hu : s.undisturbed) (hf : s.canFetch len) (hr : s.canRead8 (s.eaAt n)) :
    loadPost8 len n rd s = .next { (s.past len).sawRead8 (s.eaAt n) with
      regs := if rd.n = n then (s.setEr n (s.free32 0)).regs
        else ((s.setEr n (s.er n + 1)).setReg8 rd ((s.past len).read8 .data (s.eaAt n))).regs
      ccr := s.ccrMoved ((s.past len).read8 .data (s.eaAt n)) } := by
  rw [loadPost8, advance_of _ _ _ hu hf]
  refine (load8_of (s.past len) (s.eaAt n) _ hu hr).trans ?_
  rw [← movFlags_eq]
  split <;> rfl

theorem loadPost16_of (n : ERn) (rd : R16) (hu : s.undisturbed) (hf : s.canFetch len) (hr : s.canRead16 (s.eaAt n)) :
    loadPost16 len n rd s = .next { (s.past len).sawRead16 (s.eaAt n) with
      regs := if rd.n = n then (s.setEr n (s.free32 0)).regs
        else ((s.setEr n (s.er n + 2)).setReg16 rd ((s.past len).read16 .data (s.eaAt n))).regs
      ccr := s.ccrMoved ((s.past len).read16 .data (s.eaAt n)) } := by
  rw [loadPost16, advance_of _ _ _ hu hf]
  refine (load16_of (s.past len) (s.eaAt n) _ hu hr).trans ?_
  rw [← movFlags_eq]
  split <;> rfl

theorem loadPost32_of (n erd : ERn) (hu : s.undisturbed) (hf : s.canFetch len) (hr : s.canRead32 (s.eaAt n)) :
    loadPost32 len n erd s = .next { (s.past len).sawRead32 (s.eaAt n) with
      regs := if erd = n then (s.setEr n (s.free32 0)).regs
        else ((s.setEr n (s.er n + 4)).setEr erd ((s.past len).read32 (s.eaAt n))).regs
      ccr := s.ccrMoved ((s.past len).read32 (s.eaAt n)) } := by
  rw [loadPost32, advance_of _ _ _ hu hf]
  refine (load32_of (s.past len) (s.eaAt n) _ hu hr).trans ?_
  rw [← movFlags_eq]
  split <;> rfl

/-- Settles O15: the draw is the value that no source fixes. -/
theorem loadPostIncrement : Obligations.LoadPostIncrement := fun s hu =>
  ⟨fun n rd hf hr => ⟨s.free32 0, loadPost8_of n rd hu hf hr⟩,
    fun n rd hf hr => ⟨s.free32 0, loadPost16_of n rd hu hf hr⟩,
    fun n erd hf hr => ⟨s.free32 0, loadPost32_of n erd hu hf hr⟩, fun _ => rfl, fun _ => rfl,
    fun rn hf hr => ⟨_, loadPost16_of .er7 rn hu hf hr⟩, fun n hf hr => ⟨_, loadPost32_of .er7 n hu hf hr⟩⟩
end

end Sys2Proof.Machine
end

section
/-! ### Effective addresses as numbers (O9) -/

namespace Sys2Proof.Machine

theorem low24_toNat (x : Long) : (low24 x).toNat = x.toNat % 2 ^ 24 := by
  rw [low24, BitVec.extractLsb'_toNat, Nat.shiftRight_zero]

theorem signExtend_toNat {m n : Nat} (x : BitVec m) : ((x.signExtend n).toNat : Int) = x.toInt % 2 ^ n := by
  rw [BitVec.signExtend, BitVec.toNat_ofInt, Int.toNat_of_nonneg (Int.emod_nonneg _ (by positivity))]
  push_cast
  rfl

/-- Settles O9: low 24 bits are a remainder, an extension keeps the value modulo the width. -/
theorem effectiveAddressFormulas : Obligations.EffectiveAddressFormulas := by
  intro s n d16 d24 a8
  have hd := d24.isLt
  refine ⟨low24_toNat _, ?_, ?_, ?_, ?_, ?_, signExtend_toNat a8, signExtend_toNat d16, fun h => ?_, fun h => ?_⟩
  · rw [State.eaD16, low24_toNat, BitVec.toNat_add]
    have := signExtend_toNat (n := 32) d16
    omega
  · rw [State.eaD24, low24_toNat, BitVec.toNat_add, BitVec.zeroExtend_eq_setWidth, BitVec.toNat_setWidth]
    omega
  · rw [eaAbs8, BitVec.toNat_append, ← Nat.shiftLeft_add_eq_or_of_lt a8.isLt]
    rfl
  · have h := signExtend_toNat (n := 24) d16
    rw [BitVec.toInt_eq_toNat_cond] at h
    rw [eaAbs16]
    split <;> split at h <;> omega
  · rw [eaPointer, BitVec.zeroExtend_eq_setWidth, BitVec.toNat_setWidth]
    have := a8.isLt
    omega
  · rw [State.loadPc, h, evenAddr_toNat, wrapPc_normal_toNat]
    omega
  · rw [State.loadPc, h, evenAddr_toNat]; rfl

end Sys2Proof.Machine
end

section
/-! ### The instruction a step runs (O5) -/

namespace Sys2Proof.Machine

section
variable {s : State} {i : Instr}

theorem State.sawWords_withInhibit (s : State) (b : Bool) (off n : Nat) :
    State.sawWords { s with intInhibit := b } off n = { s.sawWords off n with intInhibit := b } := by
  induction n generalizing s off with
  | zero => rfl
  | succ n ih => exact ih (s.sawRead16 _) (off + 2)

theorem State.wordsAhead_withInhibit (s : State) (b : Bool) (off n : Nat) :
    State.wordsAhead { s with intInhibit := b } off n = s.wordsAhead off n := by
  induction n generalizing s off with
  | zero => rfl
  | succ n ih => exact congrArg (_ :: ·) (ih (s.sawRead16 _) (off + 2))

theorem State.instructionWords_withInhibit (s : State) (b : Bool) :
    State.instructionWords { s with intInhibit := b } = s.instructionWords :=
  congrArg (s.pf :: ·) (s.wordsAhead_withInhibit b 2 4)

theorem State.wordsAhead_length (s : State) (off n : Nat) : (s.wordsAhead off n).length = n := by
  induction n generalizing s off with
  | zero => rfl
  | succ n ih => rw [State.wordsAhead, List.length_cons, ih]

/-- The word prefetched and the `n` after it begin the words at PC. -/
theorem State.instructionWords_take (s : State) {n : Nat} (hn : n ≤ 4) :
    ∃ rest, s.instructionWords = ([s.pf] ++ s.wordsAhead 2 n) ++ rest :=
  ⟨(s.sawWords 2 n).wordsAhead (2 + 2 * n) (4 - n), by
    rw [List.append_assoc, ← State.wordsAhead_add, Nat.add_sub_cancel' hn]; rfl⟩

/-- Where nothing is taken first the step is the instruction at PC, whatever comes of it. -/
theorem State.RunsNext.step_eq (h : s.RunsNext) :
    step s = executeInstruction { s.sample with intInhibit := false } := by
  have hrun : s.sample.proc = .run := s.sample_proc.trans h.run
  have hstep : step s = runStep s.sample := by
    simp only [step, machineStep, pinStep, stateStep, hrun, h.standby, h.reset, h.bus, Bool.false_eq_true, if_false,
      reduceCtorEq]
  rw [hstep, runStep]
  split
  next => rfl
  next hi =>
    rw [h.request.resolve_left fun hr => hi (s.sample_intInhibit.trans hr), ← Bool.eq_false_of_not_eq_true hi]

/-- The words that R125 counts to the code at PC are fetched, as many as its digits tell, and then executed. -/
theorem executeInstruction_eq_executeWords {n : Nat} (hu : s.undisturbed) (hn : n ≤ 4)
    (hc : codeLength (s.instructionWords.flatMap nibs16) = 2 * (1 + n))
    (hr : ∀ k, k < n → s.canRead16 (s.nextPc (BitVec.ofNat 24 (2 * (k + 1))))) :
    executeInstruction s = executeWords ([s.pf] ++ s.wordsAhead 2 n) (s.sawWords 2 n) := by
  obtain ⟨rest, hrest⟩ := s.instructionWords_take hn
  rw [hrest] at hc
  refine executeFrom_of 4 [s.pf] s n hu (by simp) ?_ hn fun k hk => ?_
  · obtain h | ⟨h1, -, h4⟩ := codeLength_words ([s.pf] ++ s.wordsAhead 2 n) rest (by simp)
    · exact h.symm.trans hc
    · simp only [List.length_append, List.length_singleton, s.wordsAhead_length] at h1
      omega
  · rw [List.length_singleton, Nat.add_comm 1 k]
    exact hr k hk

theorem executeInstruction_of (hu : s.undisturbed) (hd : decode s.instructionWords = some i)
    (hr : ∀ k, k < i.length / 2 - 1 → s.canRead16 (s.nextPc (BitVec.ofNat 24 (2 * (k + 1))))) :
    executeInstruction s = exec i (s.sawWords 2 (i.length / 2 - 1)) := by
  obtain ⟨hw, tail, ht⟩ := exists_of_decode hd
  obtain ⟨n, hn, hl⟩ := i.length_eq
  rw [show i.length / 2 - 1 = n by omega] at hr ⊢
  have hc : codeLength (s.instructionWords.flatMap nibs16) = 2 * (1 + n) := by
    rw [ht, List.flatMap_append, flatMap_encode, codeLength_encodeNibs, hl]
  obtain ⟨rest, hrest⟩ := s.instructionWords_take hn
  have hcode : [s.pf] ++ s.wordsAhead 2 n = encode i := by
    refine (List.append_inj (hrest.symm.trans ht) ?_).1
    rw [encode_length, hl, List.length_append, List.length_singleton, s.wordsAhead_length]
    omega
  have hdec : decode (encode i) = some i := by simpa using decode_encode hw []
  rw [executeInstruction_eq_executeWords hu hn hc hr, hcode, executeWords, hdec]

/-- Settles O5: the words of the code are those fetched. -/
theorem stepRunsDecoded : Obligations.StepRunsDecoded := by
  intro s i h hd hr
  rw [← s.sample.instructionWords_withInhibit false] at hd
  rw [h.step_eq, executeInstruction_of (s := { s.sample with intInhibit := false }) h.undisturbed hd hr,
    State.sawWords_withInhibit]

/-- Where the words at PC are no code, the words fetched are none either. -/
theorem executeInstruction_undefined (hu : s.undisturbed) (hd : decode s.instructionWords = none)
    (hr : ∀ k, 2 * (k + 1) < codeLength (s.instructionWords.flatMap nibs16) →
      s.canRead16 (s.nextPc (BitVec.ofNat 24 (2 * (k + 1))))) :
    executeInstruction s = .fault .undefinedOpcode := by
  obtain ⟨n, hn, hc⟩ := codeLength_eq (s.instructionWords.flatMap nibs16)
  obtain ⟨rest, hrest⟩ := s.instructionWords_take hn
  have hnone : decode ([s.pf] ++ s.wordsAhead 2 n) = none :=
    Option.eq_none_iff_forall_ne_some.mpr fun i hi => by
      rw [hrest, decode_append hi rest] at hd
      exact nomatch hd
  rw [executeInstruction_eq_executeWords hu hn hc fun k hk => hr k (by omega), executeWords, hnone]

end
end Sys2Proof.Machine
end

section
/-! ### Undefined codes (O6)

The fault of an undefined code is the step's. No operation that instructions are made of gives it, and so none of them
does. -/

namespace Sys2Proof.Machine

/-- The result is not the fault of an undefined code (R131). -/
structure NotUndefined (r : Result) : Prop where
  ne : r ≠ .fault .undefinedOpcode

section
variable {s : State} {len a : Addr}

theorem NotUndefined.next : NotUndefined (.next s) := ⟨fun h => nomatch h⟩

theorem NotUndefined.drawn {b : Bool} {x y : Result} (hx : NotUndefined x) (hy : NotUndefined y) :
    NotUndefined (drawn b x y) := by
  rw [drawn_eq]
  split
  · exact hx
  · exact hy

/-- A pin that cuts the sequence short gives a next state. -/
theorem NotUndefined.beforeAccess {k : State → Result} (hk : ∀ s, NotUndefined (k s)) :
    NotUndefined (beforeAccess s k) := by
  unfold Machine.beforeAccess
  split
  · exact hk _
  · dsimp only
    split
    · exact hk _
    · exact .next
    · exact .next

theorem readFault_ne_undefinedOpcode (map : List Region) (p : Nat) : readFault map p ≠ some .undefinedOpcode :=
  fun h => nomatch readFault_eq_unmappedAccess h

theorem writeFault_ne_undefinedOpcode (map : List Region) (p : Nat) : writeFault map p ≠ some .undefinedOpcode := by
  unfold writeFault
  split <;> simp

theorem NotUndefined.checkRead {k : Result} (hk : NotUndefined k) : NotUndefined (checkRead s a k) := by
  unfold Machine.checkRead
  split
  next f hf =>
    refine ⟨?_⟩
    rintro ⟨⟩
    exact readFault_ne_undefinedOpcode _ _ hf
  next => exact hk

theorem NotUndefined.checkWrite {k : Result} (hk : NotUndefined k) : NotUndefined (checkWrite s a k) := by
  unfold Machine.checkWrite
  split
  next f hf =>
    refine ⟨?_⟩
    rintro ⟨⟩
    exact writeFault_ne_undefinedOpcode _ _ hf
  next => exact hk

theorem NotUndefined.load8 {k : Byte → State → Result} (hk : ∀ v s, NotUndefined (k v s)) : NotUndefined (load8 s a k) :=
  .beforeAccess fun _ => .checkRead (hk _ _)

theorem NotUndefined.readWord {why : Config.ReadPurpose} {k : Word → State → Result}
    (hk : ∀ v s, NotUndefined (k v s)) : NotUndefined (readWord why s a k) :=
  .beforeAccess fun _ => .checkRead (.checkRead (hk _ _))

theorem NotUndefined.load16 {k : Word → State → Result} (hk : ∀ v s, NotUndefined (k v s)) :
    NotUndefined (load16 s a k) := .readWord hk

theorem NotUndefined.load32 {k : Long → State → Result} (hk : ∀ v s, NotUndefined (k v s)) :
    NotUndefined (load32 s a k) := .load16 fun _ _ => .load16 fun _ _ => hk _ _

theorem NotUndefined.store8 {v : Byte} {k : State → Result} (hk : ∀ s, NotUndefined (k s)) :
    NotUndefined (store8 s a v k) := .beforeAccess fun _ => .checkWrite (hk _)

theorem NotUndefined.store16 {v : Word} {k : State → Result} (hk : ∀ s, NotUndefined (k s)) :
    NotUndefined (store16 s a v k) := .beforeAccess fun _ => .checkWrite (.checkWrite (hk _))

theorem NotUndefined.store32 {v : Long} {k : State → Result} (hk : ∀ s, NotUndefined (k s)) :
    NotUndefined (store32 s a v k) := .store16 fun _ => .store16 hk

theorem NotUndefined.store32AnyOrder {v : Long} {k : State → Result} (hk : ∀ s, NotUndefined (k s)) :
    NotUndefined (store32AnyOrder s a v k) := .drawn (.store32 hk) (.store16 fun _ => .store16 hk)

theorem NotUndefined.fetchAt {k : State → Result} (hk : ∀ s, NotUndefined (k s)) : NotUndefined (fetchAt s a k) :=
  .readWord fun _ _ => hk _

theorem NotUndefined.advance {k : State → Result} (hk : ∀ s, NotUndefined (k s)) : NotUndefined (advance len s k) :=
  .fetchAt hk

theorem NotUndefined.goNext : NotUndefined (goNext len s) := .advance fun _ => .next

theorem NotUndefined.goTo : NotUndefined (goTo a s) := .fetchAt fun _ => .next

theorem NotUndefined.discardNext {k : State → Result} (hk : ∀ s, NotUndefined (k s)) :
    NotUndefined (discardNext s k) := .readWord fun _ => hk

theorem NotUndefined.loadPointer {k : Addr → State → Result} (hk : ∀ p s, NotUndefined (k p s)) :
    NotUndefined (loadPointer s a k) := by
  unfold Machine.loadPointer
  cases s.params.mode
  · exact .load16 fun _ => hk _
  · exact .load32 fun _ => hk _

theorem NotUndefined.pushPc {k : State → Result} (hk : ∀ s, NotUndefined (k s)) : NotUndefined (pushPc s a k) := by
  unfold Machine.pushPc
  cases s.params.mode
  · exact .store16 fun _ => hk _
  · exact .store16 fun _ => .store16 fun _ => hk _

theorem NotUndefined.popPc {k : Addr → State → Result} (hk : ∀ p s, NotUndefined (k p s)) :
    NotUndefined (popPc s k) := by
  unfold Machine.popPc
  cases s.params.mode
  · exact .load16 fun _ _ => hk _ _
  · exact .load16 fun _ _ => .load16 fun _ _ => hk _ _

theorem NotUndefined.exceptionEntry {vec : Nat} : NotUndefined (exceptionEntry s a vec) := by
  unfold Machine.exceptionEntry
  exact .store16 fun _ => .store16 fun _ => .loadPointer fun _ _ => .goTo

theorem NotUndefined.exceptionReturn : NotUndefined (exceptionReturn s) :=
  .load16 fun _ _ => .load16 fun _ _ => .goTo

theorem NotUndefined.call {ret target : Addr} : NotUndefined (call ret target s) :=
  .fetchAt fun _ => .pushPc fun _ => .next

theorem NotUndefined.branchShort {x : Cond} {disp : Addr} : NotUndefined (branchShort x disp s) := by
  unfold Machine.branchShort
  exact .readWord fun _ _ => .readWord fun _ _ => .next

theorem NotUndefined.branchLong {x : Cond} {disp : Addr} : NotUndefined (branchLong x disp s) := by
  unfold Machine.branchLong
  dsimp only
  split
  · exact .goTo
  · exact .drawn (.readWord fun _ _ => .goNext) (.advance fun _ => .readWord fun _ _ => .next)

theorem NotUndefined.transferByte {k : State → Result} (hk : ∀ s, NotUndefined (k s)) :
    NotUndefined (transferByte s k) := .load8 fun _ _ => .store8 fun _ => hk _

theorem NotUndefined.dummyReads {k : State → Result} (hk : ∀ s, NotUndefined (k s)) :
    NotUndefined (dummyReads s k) := .load8 fun _ _ => .load8 fun _ => hk

theorem NotUndefined.eepmovLoopB (n : Nat) : NotUndefined (eepmovLoopB n s) := by
  induction n generalizing s with
  | zero => exact .goNext
  | succ n ih => exact .transferByte fun _ => ih

theorem NotUndefined.eepmovLoopW (n done : Nat) : NotUndefined (eepmovLoopW n done s) := by
  induction n generalizing s done with
  | zero => exact .goNext
  | succ n ih =>
    refine .transferByte fun _ => ?_
    dsimp only
    split
    · exact .goNext
    · exact ih _

theorem NotUndefined.loadMov8 {rd : R8} : NotUndefined (loadMov8 len a rd s) := by
  unfold Machine.loadMov8
  exact .advance fun _ => .load8 fun _ _ => .next

theorem NotUndefined.loadMov16 {rd : R16} : NotUndefined (loadMov16 len a rd s) := by
  unfold Machine.loadMov16
  exact .advance fun _ => .load16 fun _ _ => .next

theorem NotUndefined.loadMov32 {rd : ERn} : NotUndefined (loadMov32 len a rd s) := by
  unfold Machine.loadMov32
  exact .advance fun _ => .load32 fun _ _ => .next

theorem NotUndefined.loadPost8 {n : ERn} {rd : R8} : NotUndefined (loadPost8 len n rd s) := by
  unfold Machine.loadPost8
  exact .advance fun _ => .load8 fun _ _ => .next

theorem NotUndefined.loadPost16 {n : ERn} {rd : R16} : NotUndefined (loadPost16 len n rd s) := by
  unfold Machine.loadPost16
  exact .advance fun _ => .load16 fun _ _ => .next

theorem NotUndefined.loadPost32 {n : ERn} {rd : ERn} : NotUndefined (loadPost32 len n rd s) := by
  unfold Machine.loadPost32
  exact .advance fun _ => .load32 fun _ _ => .next

theorem NotUndefined.storeMov8 {v : Byte} : NotUndefined (storeMov8 len a v s) := by
  unfold Machine.storeMov8
  exact .advance fun _ => .store8 fun _ => .next

theorem NotUndefined.storeMov16 {v : Word} : NotUndefined (storeMov16 len a v s) := by
  unfold Machine.storeMov16
  exact .advance fun _ => .store16 fun _ => .next

theorem NotUndefined.storeMov32 {v : Long} : NotUndefined (storeMov32 len a v s) := by
  unfold Machine.storeMov32
  exact .advance fun _ => .store32 fun _ => .next

theorem NotUndefined.storePre8 {rs : R8} {n : ERn} : NotUndefined (storePre8 len rs n s) := by
  unfold Machine.storePre8
  exact .storeMov8

theorem NotUndefined.storePre16 {rs : R16} {n : ERn} : NotUndefined (storePre16 len rs n s) := by
  unfold Machine.storePre16
  exact .storeMov16

theorem NotUndefined.storePre32 {ers n : ERn} : NotUndefined (storePre32 len ers n s) := by
  unfold Machine.storePre32
  exact .advance fun _ => .store32AnyOrder fun _ => .next

theorem NotUndefined.ldcWord : NotUndefined (ldcWord len a s) := by
  unfold Machine.ldcWord
  exact .advance fun _ => .load16 fun _ _ => .next

theorem NotUndefined.ldcPost {n : ERn} : NotUndefined (ldcPost len n s) := by
  unfold Machine.ldcPost
  exact .advance fun _ => .load16 fun _ _ => .next

theorem NotUndefined.stcWord : NotUndefined (stcWord len a s) := by
  unfold Machine.stcWord
  exact .advance fun _ => .store16 fun _ => .next

theorem NotUndefined.stcPre {n : ERn} : NotUndefined (stcPre len n s) := by
  unfold Machine.stcPre
  exact .stcWord

theorem NotUndefined.bitWriteMem {f : Byte → Byte} : NotUndefined (bitWriteMem len a f s) := by
  unfold Machine.bitWriteMem
  exact .load8 fun _ _ => .advance fun _ => .store8 fun _ => .next

theorem NotUndefined.bitReadMem {f : Byte → Byte → Byte} : NotUndefined (bitReadMem len a f s) := by
  unfold Machine.bitReadMem
  exact .load8 fun _ _ => .goNext

theorem NotUndefined.callIndirect {ret : Addr} : NotUndefined (callIndirect ret a s) := by
  unfold Machine.callIndirect
  exact .loadPointer fun _ _ => .pushPc fun _ => .goTo

theorem NotUndefined.execJmpAtERn {n : ERn} : NotUndefined (execJmpAtERn n s) := by
  unfold Machine.execJmpAtERn
  exact .discardNext fun _ => .goTo

theorem NotUndefined.execJmpInd8 {x : Byte} : NotUndefined (execJmpInd8 x s) := by
  unfold Machine.execJmpInd8
  exact .discardNext fun _ => .loadPointer fun _ _ => .goTo

theorem NotUndefined.execBsrD8 {x : Byte} : NotUndefined (execBsrD8 x s) := by
  unfold Machine.execBsrD8
  exact .discardNext fun _ => .call

theorem NotUndefined.execJsrAtERn {n : ERn} : NotUndefined (execJsrAtERn n s) := by
  unfold Machine.execJsrAtERn
  exact .discardNext fun _ => .call

theorem NotUndefined.execJsrInd8 {x : Byte} : NotUndefined (execJsrInd8 x s) := by
  unfold Machine.execJsrInd8
  exact .discardNext fun _ => .callIndirect

theorem NotUndefined.execRts : NotUndefined (execRts s) := by
  unfold Machine.execRts
  exact .discardNext fun _ => .popPc fun _ _ => .goTo

theorem NotUndefined.execRte : NotUndefined (execRte s) := by
  unfold Machine.execRte
  exact .discardNext fun _ => .exceptionReturn

theorem NotUndefined.execTrapaImm2 {x : BitVec 2} : NotUndefined (execTrapaImm2 x s) := by
  unfold Machine.execTrapaImm2
  exact .discardNext fun _ => .exceptionEntry

theorem NotUndefined.execEepmovB : NotUndefined (execEepmovB s) := by
  unfold Machine.execEepmovB
  exact .dummyReads fun _ => .eepmovLoopB _

theorem NotUndefined.execEepmovW : NotUndefined (execEepmovW s) := by
  unfold Machine.execEepmovW
  exact .dummyReads fun _ => .eepmovLoopW _ _

theorem daa8_notUndefined {rd : R8} : NotUndefined (daa8 len rd s) := by
  unfold daa8
  dsimp only
  split <;> exact .goNext

theorem das8_notUndefined {rd : R8} : NotUndefined (das8 len rd s) := by
  unfold das8
  dsimp only
  split <;> exact .goNext

theorem execMovfpe_notUndefined {abs : Word} {rd : R8} : NotUndefined (execMovfpeAbs16Rd abs rd s) := by
  unfold execMovfpeAbs16Rd
  split
  · exact .drawn .loadMov8 (.load8 fun _ _ => .goNext)
  · exact ⟨fun h => nomatch h⟩

theorem execMovtpe_notUndefined {rs : R8} {abs : Word} : NotUndefined (execMovtpeRsAbs16 rs abs s) := by
  unfold execMovtpeRsAbs16
  split
  · exact .drawn .storeMov8 (.store8 fun _ => .goNext)
  · exact ⟨fun h => nomatch h⟩

end
/-- No instruction is that fault: each is made of the operations above. -/
theorem exec_notUndefined (s : State) (i : Instr) : NotUndefined (exec i s) := by
  cases i with
  | movBAtERsRd | movBD16ERsRd | movBD24ERsRd | movBAbs8Rd | movBAbs16Rd | movBAbs24Rd => exact .loadMov8
  | movWAtERsRd | movWD16ERsRd | movWD24ERsRd | movWAbs16Rd | movWAbs24Rd => exact .loadMov16
  | movLAtERsERd | movLD16ERsERd | movLD24ERsERd | movLAbs16ERd | movLAbs24ERd => exact .loadMov32
  | movBPostERsRd => exact .loadPost8
  | movWPostERsRd | popWRn => exact .loadPost16
  | movLPostERsERd | popLERn => exact .loadPost32
  | movBRsAtERd | movBRsD16ERd | movBRsD24ERd | movBRsAbs8 | movBRsAbs16 | movBRsAbs24 => exact .storeMov8
  | movWRsAtERd | movWRsD16ERd | movWRsD24ERd | movWRsAbs16 | movWRsAbs24 => exact .storeMov16
  | movLERsAtERd | movLERsD16ERd | movLERsD24ERd | movLERsAbs16 | movLERsAbs24 => exact .storeMov32
  | movBRsPreERd => exact .storePre8
  | movWRsPreERd | pushWRn => exact .storePre16
  | movLERsPreERd | pushLERn => exact .storePre32
  | ldcAtERsCcr | ldcD16ERsCcr | ldcD24ERsCcr | ldcAbs16Ccr | ldcAbs24Ccr => exact .ldcWord
  | ldcPostERsCcr => exact .ldcPost
  | stcCcrAtERd | stcCcrD16ERd | stcCcrD24ERd | stcCcrAbs16 | stcCcrAbs24 => exact .stcWord
  | stcCcrPreERd => exact .stcPre
  | movfpeAbs16Rd => exact execMovfpe_notUndefined
  | movtpeRsAbs16 => exact execMovtpe_notUndefined
  | daaRd => exact daa8_notUndefined
  | dasRd => exact das8_notUndefined
  | bsetImm3AtERd | bsetImm3Abs8 | bsetRnAtERd | bsetRnAbs8 | bclrImm3AtERd | bclrImm3Abs8 | bclrRnAtERd | bclrRnAbs8
  | bnotImm3AtERd | bnotImm3Abs8 | bnotRnAtERd | bnotRnAbs8 | bstImm3AtERd | bstImm3Abs8 | bistImm3AtERd
  | bistImm3Abs8 => exact .bitWriteMem
  | btstImm3AtERd | btstImm3Abs8 | btstRnAtERd | btstRnAbs8 | bandImm3AtERd | bandImm3Abs8 | biandImm3AtERd
  | biandImm3Abs8 | borImm3AtERd | borImm3Abs8 | biorImm3AtERd | biorImm3Abs8 | bxorImm3AtERd | bxorImm3Abs8
  | bixorImm3AtERd | bixorImm3Abs8 | bldImm3AtERd | bldImm3Abs8 | bildImm3AtERd | bildImm3Abs8 => exact .bitReadMem
  | braD8 | brnD8 | bhiD8 | blsD8 | bccD8 | bcsD8 | bneD8 | beqD8 | bvcD8 | bvsD8 | bplD8 | bmiD8 | bgeD8 | bltD8
  | bgtD8 | bleD8 => exact .branchShort
  | braD16 => exact .branchLong (x := .ra)
  | brnD16 => exact .branchLong (x := .rn)
  | bhiD16 | blsD16 | bccD16 | bcsD16 | bneD16 | beqD16 | bvcD16 | bvsD16 | bplD16 | bmiD16 | bgeD16
  | bltD16 | bgtD16 | bleD16 => exact .branchLong
  | jmpAtERn => exact .execJmpAtERn
  | jmpInd8 => exact .execJmpInd8
  | jmpAbs24 => exact .goTo
  | bsrD8 => exact .execBsrD8
  | jsrAtERn => exact .execJsrAtERn
  | jsrInd8 => exact .execJsrInd8
  | bsrD16 | jsrAbs24 => exact .call
  | rts => exact .execRts
  | rte => exact .execRte
  | trapaImm2 => exact .execTrapaImm2
  | eepmovB => exact .execEepmovB
  | eepmovW => exact .execEepmovW
  | _ => exact .goNext

/-- Settles O6: the words fetched are a part of those that are no code, and the instructions' faults are the bus's and
those of MOVFPE and MOVTPE. -/
theorem undefinedCodeFaults : Obligations.UndefinedCodeFaults := by
  refine ⟨fun s h hd hr => ?_, fun s i => (exec_notUndefined s i).ne⟩
  rw [← s.sample.instructionWords_withInhibit false] at hd hr
  rw [h.step_eq]
  exact executeInstruction_undefined (s := { s.sample with intInhibit := false }) h.undisturbed hd hr

end Sys2Proof.Machine
end

section
/-! ### MOV to a register, stores, MOVTPE (O13, O16, O18) -/

namespace Sys2Proof.Machine

section
variable {i : Instr} {s : State} {len ea : Addr}

/-! MOV to a register: the value goes into the view, its flags into CCR (R141). -/

theorem writesByteReg_move {rd : R8} {v : Byte} (hu : s.undisturbed) (e : exec i s = goNext len (s.move8 rd v)) :
    WritesByteReg i s len rd v (s.ccrMoved v) :=
  completes_of hu (by rw [e, State.move8, movFlags_eq]; rfl)

theorem writesWordReg_move {rd : R16} {v : Word} (hu : s.undisturbed) (e : exec i s = goNext len (s.move16 rd v)) :
    WritesWordReg i s len rd v (s.ccrMoved v) :=
  completes_of hu (by rw [e, State.move16, movFlags_eq]; rfl)

theorem writesLongReg_move {n : ERn} {v : Long} (hu : s.undisturbed) (e : exec i s = goNext len (s.move32 n v)) :
    WritesLongReg i s len n v (s.ccrMoved v) :=
  completes_of hu (by rw [e, State.move32, movFlags_eq]; rfl)

/-- Settles O13: each form is the move of its size, at its own length. -/
theorem moveToRegister : Obligations.MoveToRegister := fun _ hu =>
  ⟨fun _ _ => writesByteReg_move hu rfl, fun _ _ => writesWordReg_move hu rfl, fun _ _ => writesLongReg_move hu rfl,
    fun _ _ => writesByteReg_move hu rfl, fun _ _ => writesWordReg_move hu rfl, fun _ _ => writesLongReg_move hu rfl⟩

/-! Stores without a register update: `storesByte_of` and `storesWord_of`, and the longword, the word at EA first. -/

theorem storesLong_of {v : Long} {regs : RegFile} (hu : s.undisturbed)
    (e : exec i s = storeMov32 len ea v { s with regs := regs }) : StoresLong i s len ea v regs := fun hf hw =>
  completesStoring_of rfl rfl (State.stored_write32 _ ea v) <| by
    rw [e, storeMov32, advance_storing regs v hu hf]
    exact store32_of { s.past len with regs := regs, ccr := s.ccrMoved v } ea v _ hu hw

/-- Settles O16: each form is the store of its size, at its own length and effective address. -/
theorem storeToMemory : Obligations.StoreToMemory := fun _ hu =>
  ⟨fun _ _ => storesByte_of hu rfl, fun _ _ _ => storesByte_of hu rfl, fun _ _ _ => storesByte_of hu rfl,
    fun _ _ => storesByte_of hu rfl, fun _ _ => storesByte_of hu rfl, fun _ _ => storesByte_of hu rfl,
    fun _ _ => storesWord_of hu rfl, fun _ _ _ => storesWord_of hu rfl, fun _ _ _ => storesWord_of hu rfl,
    fun _ _ => storesWord_of hu rfl, fun _ _ => storesWord_of hu rfl,
    fun _ _ => storesLong_of hu rfl, fun _ _ _ => storesLong_of hu rfl, fun _ _ _ => storesLong_of hu rfl,
    fun _ _ => storesLong_of hu rfl, fun _ _ => storesLong_of hu rfl⟩

/-! MOVTPE. -/

/-- The store of the byte before the next word is fetched (R572): what is fetched is that of the machine after it. -/
theorem store8_goNext_of (v : Byte) (hu : s.undisturbed) (hf : s.canFetch len) (hw : s.canWrite8 ea) :
    (store8 s ea v fun s => goNext len (s.withCcr (movFlags s.ccr v))) =
      .next { (s.write8 ea v).past len with ccr := s.ccrMoved v } := by
  rw [store8_of s ea v _ hu hw, State.write8_ccr, movFlags_eq]
  exact goNext_of len ((s.write8 ea v).withCcr (s.ccrMoved v)) hu hf

/-- MOVTPE's store, whichever of its two accesses comes first (R191). -/
theorem storePeripheral_of {v : Byte} (hu : s.undisturbed) (e : exec i s = storePeripheral len ea v s)
    (hf : s.canFetch len) (hw : s.canWrite8 ea) :
    CompletesStoring i s (s.past len) s.regs (s.ccrMoved v) (s.storedByte ea v) ∨
      ∃ u, s.SameControl u ∧ s.Stored u (s.storedByte ea v) ∧ u.regs = s.regs ∧ u.pc = s.pc ∧
        exec i s = .next { u.past len with ccr := s.ccrMoved v } := by
  rw [storePeripheral, drawn_eq] at e
  cases hb : s.free1 0 with
  | true => exact .inl (storesByte_of hu (e.trans (if_pos hb)) hf hw)
  | false =>
    refine .inr ⟨s.write8 ea v, ⟨rfl, rfl, rfl, rfl, rfl, rfl⟩, s.stored_write8 ea v, rfl, rfl, ?_⟩
    exact e.trans ((if_neg (ne_true_of_eq_false hb)).trans (store8_goNext_of v hu hf hw))

/-- Settles O18: the E clock decides between the store and the fault. -/
theorem peripheralTransfers : Obligations.PeripheralTransfers := fun _ hu =>
  ⟨fun hE _ _ => storePeripheral_of hu (if_pos hE), fun hE =>
    ⟨fun _ _ => if_neg (ne_true_of_eq_false hE), fun _ _ => if_neg (ne_true_of_eq_false hE)⟩⟩

end
end Sys2Proof.Machine
end

section
/-! ### ADD, SUB, CMP, INC, DEC, NEG, EXTU, EXTS (O19, O21, O24) -/

namespace Sys2Proof.Machine

/-- `put` writes general registers of the machine `s` alone. -/
def State.PutsRegs {w : Nat} (s : State) (put : BitVec w → State) : Prop :=
  ∀ v, put v = { s with regs := (put v).regs }

theorem State.putsRegs_setReg8 (s : State) (rd : R8) : s.PutsRegs (s.setReg8 rd) := fun _ => rfl

theorem State.putsRegs_setReg16 (s : State) (rd : R16) : s.PutsRegs (s.setReg16 rd) := fun _ => rfl

theorem State.putsRegs_setEr (s : State) (n : ERn) : s.PutsRegs (s.setEr n) := fun _ => rfl

/-! The sum and the difference without a carry in, and the flags of the forms that have their own formulas in R200. -/

theorem addResult_false {w : Nat} (d x : BitVec w) : addResult d x false = d + x := by simp [addResult, cinNat]

theorem subResult_false {w : Nat} (d x : BitVec w) : subResult d x false = d - x := by simp [subResult, cinNat]

/-- CCR after INC: `k` is not negative, so V is that of R200. -/
theorem incFlags_eq {w : Nat} (s : State) (d k : BitVec w) (hk : k.msb = false) :
    incFlags s.ccr d k = s.ccrIncremented d (d + k) := by
  have hv : addOverflow d k false = (!d.msb && (d + k).msb) := by
    rw [addOverflow_eq, addResult_false, hk]; simp
  apply ccr_ext
  intro f
  cases f <;> simp [incFlags, ccrNZ, State.ccrIncremented, State.ccrNZVC, State.ccrHNZVC, State.flag, bitVec_zero_iff,
    addResult_false, hv]

/-- CCR after DEC likewise. -/
theorem decFlags_eq {w : Nat} (s : State) (d k : BitVec w) (hk : k.msb = false) :
    decFlags s.ccr d k = s.ccrDecremented d (d - k) := by
  have hv : subOverflow d k false = (d.msb && !(d - k).msb) := by
    rw [subOverflow_eq, subResult_false, hk]; simp
  apply ccr_ext
  intro f
  cases f <;> simp [decFlags, ccrNZ, State.ccrDecremented, State.ccrNZVC, State.ccrHNZVC, State.flag, bitVec_zero_iff,
    subResult_false, hv]

/-- A borrow from a bit that is 0. -/
theorem borrowBit_zero (x r : Bool) : borrowBit x false r = (x || r) := by cases x <;> cases r <;> rfl

/-- The formulas of a difference from 0 are those of a negation. -/
theorem ccrDifference_zero {w : Nat} (s : State) (d r : BitVec w) :
    s.ccrDifference 0 d r (decide (r.toNat = 0)) = s.ccrNegated d r := by
  simp [State.ccrDifference, State.ccrNegated, borrowBit_zero]

section
variable {i : Instr} {s : State} {len : Addr} {w : Nat} {put : BitVec w → State} {d x : BitVec w}

/-- An instruction that puts a value into a register and the flags into CCR. -/
theorem completes_put {ccr : Byte} (hu : s.undisturbed) (hp : s.PutsRegs put)
    (e : exec i s = goNext len ((put x).withCcr ccr)) : Completes i s len (put x).regs ccr :=
  completes_of hu (by rw [e, hp x]; rfl)

theorem completes_add (hw : 5 ≤ w) (hu : s.undisturbed) (hp : s.PutsRegs put)
    (e : exec i s = goNext len ((put (addResult d x false)).withCcr (addFlags s.ccr d x false))) :
    Completes i s len (put (d + x)).regs (s.ccrSum d x (d + x) (decide ((d + x).toNat = 0))) := by
  rw [← addResult_false, ← addFlags_eq s d x false hw]
  exact completes_put hu hp e

theorem completes_sub (hw : 5 ≤ w) (hu : s.undisturbed) (hp : s.PutsRegs put)
    (e : exec i s = goNext len ((put (subResult d x false)).withCcr (subFlags s.ccr d x false))) :
    Completes i s len (put (d - x)).regs (s.ccrDifference d x (d - x) (decide ((d - x).toNat = 0))) := by
  rw [← subResult_false, ← subFlags_eq s d x false hw]
  exact completes_put hu hp e

theorem completes_cmp (hw : 5 ≤ w) (hu : s.undisturbed)
    (e : exec i s = goNext len (s.withCcr (subFlags s.ccr d x false))) :
    Completes i s len s.regs (s.ccrDifference d x (d - x) (decide ((d - x).toNat = 0))) := by
  rw [← subResult_false, ← subFlags_eq s d x false hw]
  exact completes_of hu e

theorem completes_inc (hk : x.msb = false) (hu : s.undisturbed) (hp : s.PutsRegs put)
    (e : exec i s = goNext len ((put (d + x)).withCcr (incFlags s.ccr d x))) :
    Completes i s len (put (d + x)).regs (s.ccrIncremented d (d + x)) := by
  rw [← incFlags_eq s d x hk]
  exact completes_put hu hp e

theorem completes_dec (hk : x.msb = false) (hu : s.undisturbed) (hp : s.PutsRegs put)
    (e : exec i s = goNext len ((put (d - x)).withCcr (decFlags s.ccr d x))) :
    Completes i s len (put (d - x)).regs (s.ccrDecremented d (d - x)) := by
  rw [← decFlags_eq s d x hk]
  exact completes_put hu hp e

theorem completes_neg (hw : 5 ≤ w) (hu : s.undisturbed) (hp : s.PutsRegs put)
    (e : exec i s = goNext len ((put (subResult 0 d false)).withCcr (subFlags s.ccr 0 d false))) :
    Completes i s len (put (-d)).regs (s.ccrNegated d (-d)) := by
  rw [← BitVec.zero_sub, ← ccrDifference_zero]
  exact completes_sub hw hu hp e

end

/-- Settles O19: each form is the sum, the difference or the comparison of its size, at its own length. -/
theorem addSubtractCompare : Obligations.AddSubtractCompare := fun s hu =>
  have byte : 5 ≤ 8 := by decide
  have word : 5 ≤ 16 := by decide
  have long : 5 ≤ 32 := by decide
  ⟨fun _ rd => completes_add byte hu (s.putsRegs_setReg8 rd) rfl,
    fun _ rd => completes_add byte hu (s.putsRegs_setReg8 rd) rfl,
    fun _ rd => completes_add word hu (s.putsRegs_setReg16 rd) rfl,
    fun _ rd => completes_add word hu (s.putsRegs_setReg16 rd) rfl,
    fun _ n => completes_add long hu (s.putsRegs_setEr n) rfl,
    fun _ n => completes_add long hu (s.putsRegs_setEr n) rfl,
    fun _ rd => completes_sub byte hu (s.putsRegs_setReg8 rd) rfl,
    fun _ rd => completes_sub word hu (s.putsRegs_setReg16 rd) rfl,
    fun _ rd => completes_sub word hu (s.putsRegs_setReg16 rd) rfl,
    fun _ n => completes_sub long hu (s.putsRegs_setEr n) rfl,
    fun _ n => completes_sub long hu (s.putsRegs_setEr n) rfl,
    fun _ _ => completes_cmp byte hu rfl, fun _ _ => completes_cmp byte hu rfl,
    fun _ _ => completes_cmp word hu rfl, fun _ _ => completes_cmp word hu rfl,
    fun _ _ => completes_cmp long hu rfl, fun _ _ => completes_cmp long hu rfl⟩

/-- Settles O21: 1 and 2 are not negative at any of the three sizes. -/
theorem incrementDecrementNegate : Obligations.IncrementDecrementNegate := fun s hu =>
  ⟨fun rd => completes_inc rfl hu (s.putsRegs_setReg8 rd) rfl,
    fun rd => completes_inc rfl hu (s.putsRegs_setReg16 rd) rfl,
    fun n => completes_inc rfl hu (s.putsRegs_setEr n) rfl,
    fun rd => completes_inc rfl hu (s.putsRegs_setReg16 rd) rfl,
    fun n => completes_inc rfl hu (s.putsRegs_setEr n) rfl,
    fun rd => completes_dec rfl hu (s.putsRegs_setReg8 rd) rfl,
    fun rd => completes_dec rfl hu (s.putsRegs_setReg16 rd) rfl,
    fun n => completes_dec rfl hu (s.putsRegs_setEr n) rfl,
    fun rd => completes_dec rfl hu (s.putsRegs_setReg16 rd) rfl,
    fun n => completes_dec rfl hu (s.putsRegs_setEr n) rfl,
    fun rd => completes_neg (by decide) hu (s.putsRegs_setReg8 rd) rfl,
    fun rd => completes_neg (by decide) hu (s.putsRegs_setReg16 rd) rfl,
    fun n => completes_neg (by decide) hu (s.putsRegs_setEr n) rfl⟩

/-- The top bit of a zero extension is 0, so a moved one clears N. -/
theorem ccrMoved_zeroExtend {v w : Nat} (s : State) (x : BitVec v) (h : v < w) :
    s.ccrMoved (x.zeroExtend w) = s.ccrNZVC false (decide ((x.zeroExtend w).toNat = 0)) false (s.flag .c) := by
  have hm : (x.zeroExtend w).msb = false := by
    rw [BitVec.zeroExtend_eq_setWidth, BitVec.msb_setWidth, BitVec.getLsbD_of_ge x _ (by omega), Bool.and_false]
  rw [State.ccrMoved, hm]

/-- Settles O24: each form moves the extended value into its register. -/
theorem extendRegister : Obligations.ExtendRegister := by
  intro s hu
  refine ⟨fun rd => ?_, fun n => ?_, fun _ => writesWordReg_move hu rfl, fun _ => writesLongReg_move hu rfl⟩
  · dsimp only
    rw [← ccrMoved_zeroExtend s _ (by decide)]
    exact writesWordReg_move hu rfl
  · dsimp only
    rw [← ccrMoved_zeroExtend s _ (by decide)]
    exact writesLongReg_move hu rfl

end Sys2Proof.Machine
end

section
/-! ### Multiplication and division (O25, O26, O27) -/

namespace Sys2Proof.Machine

/-! The arithmetic: exact products, and quotients and remainders that fit. -/

theorem toNat_mul_zeroExtend {w v : Nat} (a b : BitVec w) (h : w + w ≤ v) :
    (a.zeroExtend v * b.zeroExtend v).toNat = a.toNat * b.toNat := by
  have hlt : a.toNat * b.toNat < 2 ^ v :=
    calc a.toNat * b.toNat < 2 ^ w * 2 ^ w := Nat.mul_lt_mul'' a.isLt b.isLt
      _ = 2 ^ (w + w) := (Nat.pow_add ..).symm
      _ ≤ 2 ^ v := Nat.pow_le_pow_right (by decide) h
  have hext (c : BitVec w) : (c.zeroExtend v).toNat = c.toNat := BitVec.toNat_setWidth_of_le (by omega)
  rw [← hext a, ← hext b] at hlt ⊢
  exact BitVec.toNat_mul_of_lt hlt

theorem toInt_mul_signExtend {w v : Nat} (a b : BitVec w) (hw : 0 < w) (h : w + w ≤ v) :
    (a.signExtend v * b.signExtend v).toInt = a.toInt * b.toInt := by
  have hpow : (2 : Int) ^ (w * 2 - 2) * 2 < ((2 ^ v : Nat) : Int) := by
    rw [← Int.pow_succ]
    exact_mod_cast Nat.pow_lt_pow_right (by decide : 1 < 2) (by omega)
  have hlo := BitVec.le_toInt_mul_toInt (x := a) (y := b)
  have hhi := BitVec.toInt_mul_toInt_le (x := a) (y := b)
  rw [BitVec.toInt_mul, BitVec.toInt_signExtend_of_le (by omega), BitVec.toInt_signExtend_of_le (by omega)]
  exact Int.bmod_eq_of_le_mul_two (by omega) (by omega)

/-- An unsigned quotient that fits: the remainder fits too. -/
theorem divideUnsigned_of {w d x : Nat} (hw : x < 2 ^ w) (hx : x ≠ 0) (hq : d / x < 2 ^ w) :
    ∃ rem q : BitVec w, divideUnsigned w d x = some (rem, q) ∧ d = q.toNat * x + rem.toNat ∧ rem.toNat < x := by
  have hr : d % x < x := Nat.mod_lt d (Nat.pos_of_ne_zero hx)
  refine ⟨_, _, if_neg (not_or.mpr ⟨hx, Nat.not_le.mpr hq⟩), ?_⟩
  rw [BitVec.toNat_ofNat, BitVec.toNat_ofNat, Nat.mod_eq_of_lt hq, Nat.mod_eq_of_lt (hr.trans hw)]
  exact ⟨(Nat.div_add_mod' d x).symm, hr⟩

/-- A remainder that is not 0 has the sign of the dividend. -/
theorem tmod_sign (d x : Int) : d.tmod x = 0 ∨ (d.tmod x < 0 ↔ d < 0) := by
  have hs := Int.sign_tmod d x
  split at hs
  · exact .inl (Int.sign_eq_zero_iff_zero.mp hs)
  · rw [← Int.sign_eq_neg_one_iff_neg, hs, Int.sign_eq_neg_one_iff_neg]
    exact .inr Iff.rfl

/-- A signed quotient that fits: the remainder fits too. -/
theorem divideSigned_of {w : Nat} {d x : Int} (hw : 0 < w) (hlo : -2 ^ (w - 1) ≤ x) (hhi : x < 2 ^ (w - 1))
    (hx : x ≠ 0) (hq0 : -2 ^ (w - 1) ≤ d.tdiv x) (hq1 : d.tdiv x < 2 ^ (w - 1)) :
    ∃ rem q : BitVec w, divideSigned w d x = some (rem, q) ∧ d = q.toInt * x + rem.toInt ∧
      rem.toInt.natAbs < x.natAbs ∧ (rem.toInt = 0 ∨ (rem.toInt < 0 ↔ d < 0)) := by
  have hr : (d.tmod x).natAbs < x.natAbs := by
    rw [Int.natAbs_tmod]; exact Nat.mod_lt _ (Int.natAbs_pos.mpr hx)
  refine ⟨_, _, if_neg (by omega), ?_⟩
  rw [BitVec.toInt_ofInt_eq_self hw hq0 hq1, BitVec.toInt_ofInt_eq_self hw (by omega) (by omega)]
  exact ⟨(Int.tdiv_mul_add_tmod d x).symm, hr, tmod_sign d x⟩

/-- N and Z of a product, the other flags kept. -/
theorem ccrNZ_eq {w : Nat} (s : State) (v : BitVec w) :
    ccrNZ s.ccr v = s.ccrNZVC v.msb (decide (v.toNat = 0)) (s.flag .v) (s.flag .c) := by
  apply ccr_ext
  intro f
  cases f <;> simp [ccrNZ, State.ccrNZVC, State.ccrHNZVC, State.flag, bitVec_zero_iff]

/-- CCR after a divide: N as given, Z of the divisor. -/
theorem divFlags_eq {w : Nat} (s : State) (n : Bool) (x : BitVec w) :
    divFlags s.ccr n x = s.ccrNZVC n (decide (x.toNat = 0)) (s.flag .v) (s.flag .c) := by
  apply ccr_ext
  intro f
  cases f <;> simp [divFlags, State.ccrNZVC, State.ccrHNZVC, State.flag, bitVec_zero_iff]

section
variable {i : Instr} {s : State} {len : Addr} {w : Nat} {put : BitVec w → State}

/-- A signed product goes into a register, N and Z of it into CCR. -/
theorem completes_mulxs {p : BitVec w} (hu : s.undisturbed) (hp : s.PutsRegs put)
    (e : exec i s = goNext len ((put p).withCcr (ccrNZ s.ccr p))) :
    Completes i s len (put p).regs (s.ccrNZVC p.msb (decide (p.toNat = 0)) (s.flag .v) (s.flag .c)) := by
  rw [← ccrNZ_eq]
  exact completes_put hu hp e

/-- A divide puts what it puts into a register, and N and Z of its operands into CCR. -/
theorem completes_divide {v : Nat} {x : BitVec v} {r : BitVec w} {n : Bool} (hu : s.undisturbed) (hp : s.PutsRegs put)
    (e : exec i s = goNext len ((put r).withCcr (divFlags s.ccr n x))) :
    Completes i s len (put r).regs (s.ccrNZVC n (decide (x.toNat = 0)) (s.flag .v) (s.flag .c)) := by
  rw [← divFlags_eq]
  exact completes_put hu hp e

/-- A divide by an operand that is not 0, of which the remainder and quotient `r` are put into a register. -/
theorem completes_divide_of {v : Nat} {x : BitVec v} {r r' : BitVec w} {n : Bool} (hx : x.toNat ≠ 0) (hr : r' = r)
    (hu : s.undisturbed) (hp : s.PutsRegs put)
    (e : exec i s = goNext len ((put r').withCcr (divFlags s.ccr n x))) :
    Completes i s len (put r).regs (s.ccrNZVC n false (s.flag .v) (s.flag .c)) := by
  have h := completes_divide hu hp e
  rwa [hr, decide_eq_false hx] at h

end

/-- Settles O25: the product is exact in the double width. -/
theorem multiplyExact : Obligations.MultiplyExact := fun s hu =>
  ⟨fun _ _ hf => ⟨_, toNat_mul_zeroExtend _ _ (by decide), completes_of hu rfl hf⟩,
    fun _ _ hf => ⟨_, toNat_mul_zeroExtend _ _ (by decide), completes_of hu rfl hf⟩,
    fun _ rd hf => ⟨_, toInt_mul_signExtend _ _ (by decide) (by decide),
      completes_mulxs hu (s.putsRegs_setReg16 rd) rfl hf⟩,
    fun _ n hf => ⟨_, toInt_mul_signExtend _ _ (by decide) (by decide),
      completes_mulxs hu (s.putsRegs_setEr n) rfl hf⟩⟩

/-- Settles O27: the quotient is a draw where there is none. -/
theorem divideNeverTraps : Obligations.DivideNeverTraps := fun s hu =>
  ⟨fun _ rd hf => ⟨_, completes_divide hu (s.putsRegs_setReg16 rd) rfl hf⟩,
    fun _ n hf => ⟨_, completes_divide hu (s.putsRegs_setEr n) rfl hf⟩,
    fun _ rd hf => ⟨_, completes_divide hu (s.putsRegs_setReg16 rd) rfl hf⟩,
    fun _ n hf => ⟨_, completes_divide hu (s.putsRegs_setEr n) rfl hf⟩⟩

theorem toNat_ne_zero_of_toInt {w : Nat} {x : BitVec w} (h : x.toInt ≠ 0) : x.toNat ≠ 0 := fun h0 =>
  h (by rw [(bitVec_zero_iff x).mpr h0, BitVec.toInt_zero])

/-- Settles O26: the remainder and the quotient of the operands are what the divide puts into the register. -/
theorem divideExact : Obligations.DivideExact := by
  intro s hu
  refine ⟨fun rs rd hf hx hq => ?_, fun rs n hf hx hq => ?_, fun rs rd hf hx hq0 hq1 => ?_,
    fun rs n hf hx hq0 hq1 => ?_⟩
  · obtain ⟨rem, q, e, hd, hr⟩ := divideUnsigned_of (s.reg8 rs).isLt hx hq
    exact ⟨rem, q, hd, hr, completes_divide_of hx (congrArg s.quotient16 e) hu (s.putsRegs_setReg16 rd) rfl hf⟩
  · obtain ⟨rem, q, e, hd, hr⟩ := divideUnsigned_of (s.reg16 rs).isLt hx hq
    exact ⟨rem, q, hd, hr, completes_divide_of hx (congrArg s.quotient32 e) hu (s.putsRegs_setEr n) rfl hf⟩
  · obtain ⟨rem, q, e, hd, hr, hsign⟩ :=
      divideSigned_of (by decide) (BitVec.le_toInt _) BitVec.toInt_lt hx hq0 hq1
    exact ⟨rem, q, hd, hr, hsign, completes_divide_of (toNat_ne_zero_of_toInt hx) (congrArg s.quotient16 e) hu
      (s.putsRegs_setReg16 rd) rfl hf⟩
  · obtain ⟨rem, q, e, hd, hr, hsign⟩ :=
      divideSigned_of (by decide) (BitVec.le_toInt _) BitVec.toInt_lt hx hq0 hq1
    exact ⟨rem, q, hd, hr, hsign, completes_divide_of (toNat_ne_zero_of_toInt hx) (congrArg s.quotient32 e) hu
      (s.putsRegs_setEr n) rfl hf⟩

end Sys2Proof.Machine
end

section
/-! ### DAA and DAS (O22, O23) -/

namespace Sys2Proof.Machine

/-! The rows of the two tables, over the digits of the operand. -/

/-- A row of the table of DAA (R228): `added` is added to the operand `d`, C becomes `carry`. -/
def DaaRow (c h : Bool) (d added : Nat) (carry : Bool) : Prop :=
  (c = false ∧ h = false ∧ d / 16 ≤ 9 ∧ d % 16 ≤ 9 ∧ added = 0 ∧ carry = false) ∨
  (c = false ∧ h = false ∧ d / 16 ≤ 8 ∧ 10 ≤ d % 16 ∧ added = 6 ∧ carry = false) ∨
  (c = false ∧ h = true ∧ d / 16 ≤ 9 ∧ d % 16 ≤ 3 ∧ added = 6 ∧ carry = false) ∨
  (c = false ∧ h = false ∧ 10 ≤ d / 16 ∧ d % 16 ≤ 9 ∧ added = 0x60 ∧ carry = true) ∨
  (c = false ∧ h = false ∧ 9 ≤ d / 16 ∧ 10 ≤ d % 16 ∧ added = 0x66 ∧ carry = true) ∨
  (c = false ∧ h = true ∧ 10 ≤ d / 16 ∧ d % 16 ≤ 3 ∧ added = 0x66 ∧ carry = true) ∨
  (c = true ∧ h = false ∧ d / 16 ≤ 2 ∧ d % 16 ≤ 9 ∧ added = 0x60 ∧ carry = true) ∨
  (c = true ∧ h = false ∧ d / 16 ≤ 2 ∧ 10 ≤ d % 16 ∧ added = 0x66 ∧ carry = true) ∨
  (c = true ∧ h = true ∧ d / 16 ≤ 3 ∧ d % 16 ≤ 3 ∧ added = 0x66 ∧ carry = true)

/-- A row of the table of DAS (R229). -/
def DasRow (c h : Bool) (d added : Nat) : Prop :=
  (c = false ∧ h = false ∧ d / 16 ≤ 9 ∧ d % 16 ≤ 9 ∧ added = 0) ∨
  (c = false ∧ h = true ∧ d / 16 ≤ 8 ∧ 6 ≤ d % 16 ∧ added = 0xFA) ∨
  (c = true ∧ h = false ∧ 7 ≤ d / 16 ∧ d % 16 ≤ 9 ∧ added = 0xA0) ∨
  (c = true ∧ h = true ∧ 6 ≤ d / 16 ∧ 6 ≤ d % 16 ∧ added = 0x9A)

theorem highDigit_eq (d : Byte) : highDigit d = d.toNat / 16 := by
  have := d.isLt
  simp [highDigit, BitVec.extractLsb'_toNat, Nat.shiftRight_eq_div_pow]
  omega

theorem lowDigit_eq (d : Byte) : lowDigit d = d.toNat % 16 := by
  simp [lowDigit, BitVec.extractLsb'_toNat]

/-- The model's table has the rows of R228. -/
theorem daaRow_of {c h carry : Bool} {d : Byte} {added : Nat} (hr : DaaRow c h d.toNat added carry) :
    daaRow c h (highDigit d) (lowDigit d) = some (BitVec.ofNat 8 added, carry) := by
  rw [highDigit_eq, lowDigit_eq]
  rcases hr with hr | hr | hr | hr | hr | hr | hr | hr | hr <;>
    obtain ⟨rfl, rfl, hhi, hlo, rfl, rfl⟩ := hr <;> grind [daaRow]

/-- The model's table has the rows of R229. -/
theorem dasRow_of {c h : Bool} {d : Byte} {added : Nat} (hr : DasRow c h d.toNat added) :
    dasRow c h (highDigit d) (lowDigit d) = some (BitVec.ofNat 8 added) := by
  rw [highDigit_eq, lowDigit_eq]
  rcases hr with hr | hr | hr | hr <;> obtain ⟨rfl, rfl, hhi, hlo, rfl⟩ := hr <;> grind [dasRow]

/-! What DAA and DAS leave, on a row of the table and off it. -/

theorem ccrPut_c_ccrHNZVC (s : State) (h n z v c x : Bool) :
    ccrPut (s.ccrHNZVC h n z v c) .c x = s.ccrHNZVC h n z v x := by
  apply ccr_ext
  intro f
  cases f <;> simp [State.ccrHNZVC]

/-- N and Z of a value, H and V drawn. -/
theorem drawHV_ccrNZ {w : Nat} (s : State) (r : BitVec w) : s.drawHV (ccrNZ s.ccr r) =
    s.ccrHNZVC (s.free1 1) r.msb (decide (r.toNat = 0)) (s.free1 2) (s.flag .c) := by
  apply ccr_ext
  intro f
  cases f <;> simp [State.drawHV, ccrNZ, State.ccrHNZVC, State.flag, bitVec_zero_iff]

/-- Off the tables five bits of CCR are drawn. -/
theorem decimalUndefined_eq (s : State) (rd : R8) : s.decimalUndefined rd =
    (s.setReg8 rd (s.free8 0)).withCcr
      (s.ccrHNZVC (s.free1 1) (s.free1 3) (s.free1 4) (s.free1 2) (s.free1 5)) := by
  refine congrArg (s.setReg8 rd (s.free8 0)).withCcr (ccr_ext fun f => ?_)
  cases f <;> simp [State.drawHV, State.ccrHNZVC, State.flag]

section
variable {s : State} {rd : R8}

theorem daa_of_row {added : Byte} {carry : Bool} (hu : s.undisturbed)
    (hr : daaRow (s.flag .c) (s.flag .h) (highDigit (s.reg8 rd)) (lowDigit (s.reg8 rd)) = some (added, carry)) :
    let r := s.reg8 rd + added
    Completes (.daaRd rd) s 2 (s.setReg8 rd r).regs
      (s.ccrHNZVC (s.free1 1) r.msb (decide (r.toNat = 0)) (s.free1 2) carry) := by
  refine completes_put hu (s.putsRegs_setReg8 rd) ?_
  rw [← ccrPut_c_ccrHNZVC s _ _ _ _ (s.flag .c), ← drawHV_ccrNZ]
  show daa8 2 rd s = _
  rw [daa8, hr]

theorem das_of_row {added : Byte} (hu : s.undisturbed)
    (hr : dasRow (s.flag .c) (s.flag .h) (highDigit (s.reg8 rd)) (lowDigit (s.reg8 rd)) = some added) :
    let r := s.reg8 rd + added
    Completes (.dasRd rd) s 2 (s.setReg8 rd r).regs
      (s.ccrHNZVC (s.free1 1) r.msb (decide (r.toNat = 0)) (s.free1 2) (s.flag .c)) := by
  refine completes_put hu (s.putsRegs_setReg8 rd) ?_
  rw [← drawHV_ccrNZ]
  show das8 2 rd s = _
  rw [das8, hr]

theorem completes_decimalUndefined {i : Instr} (hu : s.undisturbed)
    (e : exec i s = goNext 2 (s.decimalUndefined rd)) :
    Completes i s 2 (s.setReg8 rd (s.free8 0)).regs
      (s.ccrHNZVC (s.free1 1) (s.free1 3) (s.free1 4) (s.free1 2) (s.free1 5)) :=
  completes_put hu (s.putsRegs_setReg8 rd) (by rw [e, decimalUndefined_eq])

end

theorem toNat_add_ofNat (d : Byte) (k : Nat) : (d + BitVec.ofNat 8 k).toNat = (d.toNat + k) % 256 := by simp

/-- Settles O22: whether there is a row decides what is left, and the row of the statement is then that row. -/
theorem decimalAdjust : Obligations.DecimalAdjust := by
  refine fun s rd hu hf => ⟨?_, ?_⟩
  · cases hrow : daaRow (s.flag .c) (s.flag .h) (highDigit (s.reg8 rd)) (lowDigit (s.reg8 rd)) with
    | none =>
      have e : exec (.daaRd rd) s = goNext 2 (s.decimalUndefined rd) := by
        show daa8 2 rd s = _
        rw [daa8, hrow]
      exact ⟨_, _, _, _, _, _, completes_decimalUndefined hu e hf,
        fun _ _ hr => nomatch (daaRow_of hr).symm.trans hrow⟩
    | some row =>
      refine ⟨_, _, _, _, _, _, daa_of_row hu hrow hf, fun added carry hr => ?_⟩
      cases (daaRow_of hr).symm.trans hrow
      exact ⟨toNat_add_ofNat _ added, rfl, rfl, rfl⟩
  · cases hrow : dasRow (s.flag .c) (s.flag .h) (highDigit (s.reg8 rd)) (lowDigit (s.reg8 rd)) with
    | none =>
      have e : exec (.dasRd rd) s = goNext 2 (s.decimalUndefined rd) := by
        show das8 2 rd s = _
        rw [das8, hrow]
      exact ⟨_, _, _, _, _, _, completes_decimalUndefined hu e hf,
        fun _ hr => nomatch (dasRow_of hr).symm.trans hrow⟩
    | some row =>
      refine ⟨_, _, _, _, _, _, das_of_row hu hrow hf, fun added hr => ?_⟩
      cases (dasRow_of hr).symm.trans hrow
      exact ⟨toNat_add_ofNat _ added, rfl, rfl, rfl⟩

/-! Decimal arithmetic, on a pair of digits `u` and `l` of which each is up to 19. -/

theorem packed_digits (u l : Nat) :
    16 * ((10 * u + l) % 100 / 10) + (10 * u + l) % 10 = 16 * ((u + l / 10) % 10) + l % 10 := by
  omega

/-- Upper digits that sum to `u`, lower ones that with the carry in sum to `l`: the binary sum is on a row of the table
of DAA, which makes it the packed decimal sum. -/
theorem daaRow_of_digits {u l : Nat} (hu : u ≤ 18) (hl : l ≤ 19) :
    ∃ added, DaaRow (decide (256 ≤ 16 * u + l)) (decide (16 ≤ l)) ((16 * u + l) % 256) added
        (decide (100 ≤ 10 * u + l)) ∧
      ((16 * u + l) % 256 + added) % 256 = 16 * ((10 * u + l) % 100 / 10) + (10 * u + l) % 10 := by
  refine ⟨(if 10 ≤ l then 6 else 0) + if 100 ≤ 10 * u + l then 0x60 else 0, ?_, ?_⟩
  · unfold DaaRow
    split_ifs <;> simp <;> omega
  · rw [packed_digits]
    split_ifs <;> omega

/-- Upper digits whose difference is `u - 9`, lower ones whose difference is `l - 10`: the binary difference is on a row
of the table of DAS, which makes it the packed decimal difference. -/
theorem dasRow_of_digits {u l : Nat} (hu : u ≤ 18) (hl : l ≤ 19) :
    ∃ added, DasRow (decide (10 * u + l < 100)) (decide (l < 10)) ((16 * u + l + 102) % 256) added ∧
      ((16 * u + l + 102) % 256 + added) % 256 = 16 * ((10 * u + l) % 100 / 10) + (10 * u + l) % 10 := by
  refine ⟨if l < 10 then if 10 * u + l < 100 then 0x9A else 0xFA else if 10 * u + l < 100 then 0xA0 else 0, ?_, ?_⟩
  · unfold DasRow
    split_ifs <;> simp <;> omega
  · rw [packed_digits]
    split_ifs <;> omega

/-- The binary sum of two packed numbers and a carry, and what the row of DAA makes of it. -/
theorem daaRow_of_packed {x y c d b : Nat} (hx : x < 100) (hy : y < 100) (hc : c ≤ 1)
    (hd : d = 16 * (x / 10) + x % 10) (hb : b = 16 * (y / 10) + y % 10) :
    ∃ added, DaaRow (decide (256 ≤ d + b + c)) (decide (16 ≤ d % 16 + b % 16 + c)) ((d + b + c) % 256) added
        (decide (100 ≤ x + y + c)) ∧
      ((d + b + c) % 256 + added) % 256 = 16 * ((x + y + c) % 100 / 10) + (x + y + c) % 10 := by
  have hbinary : d + b + c = 16 * (x / 10 + y / 10) + (x % 10 + y % 10 + c) := by omega
  have hlow : d % 16 + b % 16 + c = x % 10 + y % 10 + c := by omega
  have hdecimal : x + y + c = 10 * (x / 10 + y / 10) + (x % 10 + y % 10 + c) := by omega
  rw [hbinary, hlow, hdecimal]
  exact daaRow_of_digits (by omega) (by omega)

/-- Packed numbers compare as the numbers do. -/
theorem packed_lt {x y d b : Nat} (hd : d = 16 * (x / 10) + x % 10) (hb : b = 16 * (y / 10) + y % 10) :
    d < b ↔ x < y := by omega

/-- The binary difference of two packed numbers, and what the row of DAS makes of it. -/
theorem dasRow_of_packed {x y d b : Nat} (hx : x < 100) (hy : y < 100) (hd : d = 16 * (x / 10) + x % 10)
    (hb : b = 16 * (y / 10) + y % 10) :
    ∃ added, DasRow (decide (d < b)) (decide (d % 16 < b % 16)) ((256 + d - b) % 256) added ∧
      ((256 + d - b) % 256 + added) % 256 = 16 * ((100 + x - y) % 100 / 10) + (100 + x - y) % 10 := by
  have hbinary : 256 + d - b = 16 * (9 + x / 10 - y / 10) + (10 + x % 10 - y % 10) + 102 := by omega
  have hdecimal : 100 + x - y = 10 * (9 + x / 10 - y / 10) + (10 + x % 10 - y % 10) := by omega
  have hborrow : d < b ↔ 10 * (9 + x / 10 - y / 10) + (10 + x % 10 - y % 10) < 100 := by omega
  have hhalf : d % 16 < b % 16 ↔ 10 + x % 10 - y % 10 < 10 := by omega
  rw [hbinary, hdecimal, decide_eq_decide.mpr hborrow, decide_eq_decide.mpr hhalf]
  exact dasRow_of_digits (by omega) (by omega)

theorem addFlags_c {w : Nat} (ccr : Byte) (d x : BitVec w) (c : Bool) :
    ccrGet (addFlags ccr d x c) .c = addCarry d x c := by simp [addFlags]

theorem addFlags_h {w : Nat} (ccr : Byte) (d x : BitVec w) (c : Bool) :
    ccrGet (addFlags ccr d x c) .h = addHalfCarry d x c := by simp [addFlags]

theorem subFlags_c {w : Nat} (ccr : Byte) (d x : BitVec w) (c : Bool) :
    ccrGet (subFlags ccr d x c) .c = subBorrow d x c := by simp [subFlags]

theorem subFlags_h {w : Nat} (ccr : Byte) (d x : BitVec w) (c : Bool) :
    ccrGet (subFlags ccr d x c) .h = subHalfBorrow d x c := by simp [subFlags]

/-- ADDX changes Z alone of the flags of the addition. -/
theorem keepZ_of_ne {w : Nat} (before after : Byte) (r : BitVec w) {f : Flag} (hf : f ≠ .z) :
    ccrGet (keepZ before after r) f = ccrGet after f := by simp [keepZ, hf]

theorem State.reg8_fallThrough (s : State) (len : Addr) (rd : R8) (v ccr : Byte) :
    (s.fallThrough len (s.setReg8 rd v).regs ccr).reg8 rd = v := s.reg8_setReg8_same rd v

theorem State.flag_fallThrough (s : State) (len : Addr) (regs : RegFile) (ccr : Byte) (f : Flag) :
    (s.fallThrough len regs ccr).flag f = ccrGet ccr f := rfl

theorem State.canFetch_of {s : State} {len : Addr} (hm : s.readsComplete) : s.canFetch len := ⟨hm _, hm _⟩

section
variable {i : Instr} {s : State} {rd : R8} {src ccr : Byte} {x y : Nat}

/-- The value and the carry that DAA leaves on a row of its table. -/
theorem daa_value {added : Nat} {carry : Bool} (hu : s.undisturbed) (hf : s.canFetch 2)
    (hr : DaaRow (s.flag .c) (s.flag .h) (s.reg8 rd).toNat added carry) :
    ∃ u, exec (.daaRd rd) s = .next u ∧ (u.reg8 rd).toNat = ((s.reg8 rd).toNat + added) % 256 ∧
      u.flag .c = carry := by
  refine ⟨_, daa_of_row hu (daaRow_of hr) hf, ?_, ?_⟩
  · rw [State.reg8_fallThrough, toNat_add_ofNat]
  · rw [State.flag_fallThrough, State.ccrHNZVC, ccrGet_ccrOf]

/-- The value that DAS leaves on a row of its table; the borrow stays. -/
theorem das_value {added : Nat} (hu : s.undisturbed) (hf : s.canFetch 2)
    (hr : DasRow (s.flag .c) (s.flag .h) (s.reg8 rd).toNat added) :
    ∃ u, exec (.dasRd rd) s = .next u ∧ (u.reg8 rd).toNat = ((s.reg8 rd).toNat + added) % 256 ∧
      u.flag .c = s.flag .c := by
  refine ⟨_, das_of_row hu (dasRow_of hr) hf, ?_, ?_⟩
  · rw [State.reg8_fallThrough, toNat_add_ofNat]
  · rw [State.flag_fallThrough, State.ccrHNZVC, ccrGet_ccrOf]

/-- An instruction that leaves the sum of two packed bytes and C with its carries in C and H, then DAA. -/
theorem daa_after_sum {cin : Bool} (hu : s.undisturbed) (hm : s.readsComplete) (hx : x < 100) (hy : y < 100)
    (hd : (s.reg8 rd).toNat = 16 * (x / 10) + x % 10) (hs : src.toNat = 16 * (y / 10) + y % 10)
    (e : Completes i s 2 (s.setReg8 rd (addResult (s.reg8 rd) src cin)).regs ccr)
    (hc : ccrGet ccr .c = addCarry (s.reg8 rd) src cin) (hh : ccrGet ccr .h = addHalfCarry (s.reg8 rd) src cin) :
    ∃ t u, exec i s = .next t ∧ exec (.daaRd rd) t = .next u ∧
      (u.reg8 rd).toNat = 16 * ((x + y + cinNat cin) % 100 / 10) + (x + y + cinNat cin) % 10 ∧
      u.flag .c = decide (100 ≤ x + y + cinNat cin) := by
  obtain ⟨added, hrow, hval⟩ := daaRow_of_packed hx hy (cinNat_le cin) hd hs
  have hr : (addResult (s.reg8 rd) src cin).toNat = ((s.reg8 rd).toNat + src.toNat + cinNat cin) % 256 := by
    simp [addResult]
  have ht := s.reg8_fallThrough 2 rd (addResult (s.reg8 rd) src cin) ccr
  obtain ⟨u, hexec, hreg, hflag⟩ := daa_value (rd := rd)
    (s := s.fallThrough 2 (s.setReg8 rd (addResult (s.reg8 rd) src cin)).regs ccr) (added := added)
    (carry := decide (100 ≤ x + y + cinNat cin)) hu (State.canFetch_of hm)
    (by rw [ht, State.flag_fallThrough, State.flag_fallThrough, hc, hh, hr]; exact hrow)
  exact ⟨_, u, e (State.canFetch_of hm), hexec, by rw [hreg, ht, hr, hval], hflag⟩

/-- An instruction that leaves the difference of two packed bytes with its borrows in C and H, then DAS. -/
theorem das_after_difference (hu : s.undisturbed) (hm : s.readsComplete) (hx : x < 100) (hy : y < 100)
    (hd : (s.reg8 rd).toNat = 16 * (x / 10) + x % 10) (hs : src.toNat = 16 * (y / 10) + y % 10)
    (e : Completes i s 2 (s.setReg8 rd (subResult (s.reg8 rd) src false)).regs ccr)
    (hc : ccrGet ccr .c = subBorrow (s.reg8 rd) src false)
    (hh : ccrGet ccr .h = subHalfBorrow (s.reg8 rd) src false) :
    ∃ t u, exec i s = .next t ∧ exec (.dasRd rd) t = .next u ∧
      (u.reg8 rd).toNat = 16 * ((100 + x - y) % 100 / 10) + (100 + x - y) % 10 ∧ u.flag .c = decide (x < y) := by
  obtain ⟨added, hrow, hval⟩ := dasRow_of_packed hx hy hd hs
  have hborrow : subBorrow (s.reg8 rd) src false = decide (x < y) := decide_eq_decide.mpr (packed_lt hd hs)
  have hr : (subResult (s.reg8 rd) src false).toNat = (256 + (s.reg8 rd).toNat - src.toNat) % 256 := by
    rw [subResult_false, BitVec.toNat_sub, Nat.sub_add_comm src.isLt.le]
  have ht := s.reg8_fallThrough 2 rd (subResult (s.reg8 rd) src false) ccr
  obtain ⟨u, hexec, hreg, hflag⟩ := das_value (rd := rd)
    (s := s.fallThrough 2 (s.setReg8 rd (subResult (s.reg8 rd) src false)).regs ccr) (added := added) hu
    (State.canFetch_of hm) (by rw [ht, State.flag_fallThrough, State.flag_fallThrough, hc, hh, hr]; exact hrow)
  exact ⟨_, u, e (State.canFetch_of hm), hexec, by rw [hreg, ht, hr, hval],
    by rw [hflag, State.flag_fallThrough, hc, hborrow]⟩

end

/-- Settles O23: the sums of ADD.B and ADDX, and the difference of SUB.B, are on rows of the tables. -/
theorem decimalAddition : Obligations.DecimalAddition := by
  intro s rs rd x y hu hm hx hy hd hs
  refine ⟨?_, ?_, ?_⟩
  · exact daa_after_sum (cin := false) hu hm hx hy hd hs (completes_put hu (s.putsRegs_setReg8 rd) rfl)
      (addFlags_c ..) (addFlags_h ..)
  · rw [← cinNat_eq_toNat]
    exact daa_after_sum hu hm hx hy hd hs (completes_put hu (s.putsRegs_setReg8 rd) rfl)
      ((keepZ_of_ne _ _ _ (by decide)).trans (addFlags_c ..)) ((keepZ_of_ne _ _ _ (by decide)).trans (addFlags_h ..))
  · exact das_after_difference hu hm hx hy hd hs (completes_put hu (s.putsRegs_setReg8 rd) rfl) (subFlags_c ..)
      (subFlags_h ..)

end Sys2Proof.Machine
end

section
/-! ### Conditions after CMP (O33) -/

namespace Sys2Proof.Machine

theorem subFlags_n {w : Nat} (ccr : Byte) (d x : BitVec w) (c : Bool) :
    ccrGet (subFlags ccr d x c) .n = (subResult d x c).msb := by simp [subFlags, ccrNZ]

theorem subFlags_z {w : Nat} (ccr : Byte) (d x : BitVec w) (c : Bool) :
    ccrGet (subFlags ccr d x c) .z = decide (subResult d x c = 0) := by simp [subFlags, ccrNZ]

theorem subFlags_v {w : Nat} (ccr : Byte) (d x : BitVec w) (c : Bool) :
    ccrGet (subFlags ccr d x c) .v = subOverflow d x c := by simp [subFlags]

section
variable {w : Nat} (ccr : Byte) (x y : BitVec w)

/-! What C, Z and N ⊕ V say of the operands after a comparison. -/

theorem carry_after_cmp : ccrGet (subFlags ccr x y false) .c = decide (x.toNat < y.toNat) := subFlags_c ..

theorem zero_after_cmp : ccrGet (subFlags ccr x y false) .z = decide (x.toNat = y.toNat) := by
  rw [subFlags_z, subResult_false, decide_eq_decide, BitVec.toNat_inj]
  exact sub_eq_zero

/-- The signed order is the unsigned one, turned round where the signs differ; the unsigned one is the borrow, of which
R200 gives the formula in the signs of the operands and of the difference. -/
theorem sign_after_cmp (hw : 0 < w) :
    (ccrGet (subFlags ccr x y false) .n ^^ ccrGet (subFlags ccr x y false) .v) = decide (x.toInt < y.toInt) := by
  have hult : x.ult y = borrowBit y.msb x.msb (subResult x y false).msb := subBorrow_eq x y false hw
  rw [subFlags_n, subFlags_v, subOverflow_eq, ← BitVec.slt_eq_decide, BitVec.slt_eq_ult, hult]
  cases x.msb <;> cases y.msb <;> cases (subResult x y false).msb <;> rfl

end

/-- The unsigned and the signed order, each with equality. -/
theorem conditions_after_cmp {w : Nat} (ccr : Byte) (x y : BitVec w) (hw : 0 < w) :
    let a := subFlags ccr x y false
    condHolds .hi a = decide (y.toNat < x.toNat) ∧ condHolds .ls a = decide (x.toNat ≤ y.toNat) ∧
      condHolds .cc a = decide (y.toNat ≤ x.toNat) ∧ condHolds .cs a = decide (x.toNat < y.toNat) ∧
      condHolds .ne a = decide (x.toNat ≠ y.toNat) ∧ condHolds .eq a = decide (x.toNat = y.toNat) ∧
      condHolds .ge a = decide (y.toInt ≤ x.toInt) ∧ condHolds .lt a = decide (x.toInt < y.toInt) ∧
      condHolds .gt a = decide (y.toInt < x.toInt) ∧ condHolds .le a = decide (x.toInt ≤ y.toInt) := by
  have heq : x.toNat = y.toNat ↔ x.toInt = y.toInt := by rw [BitVec.toNat_inj, BitVec.toInt_inj]
  simp only [condHolds, carry_after_cmp, zero_after_cmp, sign_after_cmp _ _ _ hw, ← Bool.decide_or, ← decide_not,
    decide_eq_decide, true_and]
  generalize x.toInt = p, y.toInt = q, x.toNat = m, y.toNat = n at heq ⊢
  exact ⟨by omega, by omega, by omega, by omega, by omega, by omega⟩

/-- The six comparisons (R212 to R217): CCR takes the flags of the difference. -/
theorem exec_cmp {s : State} {i : Instr} {w : Nat} {x y : BitVec w}
    (h : (∃ v rd, i = .cmpBImm8Rd v rd ∧ w = 8 ∧ HEq x (s.reg8 rd) ∧ HEq y v) ∨
      (∃ rs rd, i = .cmpBRsRd rs rd ∧ w = 8 ∧ HEq x (s.reg8 rd) ∧ HEq y (s.reg8 rs)) ∨
      (∃ v rd, i = .cmpWImm16Rd v rd ∧ w = 16 ∧ HEq x (s.reg16 rd) ∧ HEq y v) ∨
      (∃ rs rd, i = .cmpWRsRd rs rd ∧ w = 16 ∧ HEq x (s.reg16 rd) ∧ HEq y (s.reg16 rs)) ∨
      (∃ v n, i = .cmpLImm32ERd v n ∧ w = 32 ∧ HEq x (s.er n) ∧ HEq y v) ∨
      (∃ m n, i = .cmpLERsERd m n ∧ w = 32 ∧ HEq x (s.er n) ∧ HEq y (s.er m))) :
    0 < w ∧ ∃ len, exec i s = goNext len (s.withCcr (subFlags s.ccr x y false)) := by
  rcases h with h | h | h | h | h | h <;> obtain ⟨_, _, rfl, rfl, hx, hy⟩ := h <;> cases hx <;> cases hy <;>
    exact ⟨by decide, _, rfl⟩

/-- A condition reads the low four bits of CCR alone. -/
theorem condHolds_congr {a b : Byte} (h : a &&& 0x0F = b &&& 0x0F) (x : Cond) : condHolds x a = condHolds x b := by
  have hbit (f : Flag) (hf : f.index < 4) : ccrGet a f = ccrGet b f := by
    have hf : (0x0F : Byte).getLsbD f.index = true := by revert hf; cases f <;> decide
    have hand := congrArg (·.getLsbD f.index) h
    simpa only [BitVec.getLsbD_and, hf, Bool.and_true, ccrGet] using hand
  simp only [condHolds, hbit .c (by decide), hbit .z (by decide), hbit .n (by decide), hbit .v (by decide)]

/-- Settles O33: the conditions are read off C, Z and N ⊕ V. -/
theorem conditionsAfterCompare : Obligations.ConditionsAfterCompare := by
  refine ⟨fun s t i w x y hu hi hnext => ?_, fun a b => ?_⟩
  · obtain ⟨hw, len, e⟩ := exec_cmp hi
    obtain ⟨_, rfl⟩ := (goNext_next len (s.withCcr (subFlags s.ccr x y false)) t hu).mp (e.symm.trans hnext)
    exact conditions_after_cmp s.ccr x y hw
  · exact ⟨rfl, rfl, rfl, rfl, rfl, rfl, rfl, rfl, condHolds_congr⟩

end Sys2Proof.Machine
end

section
/-! ### AND, OR, XOR, NOT (O28) -/

namespace Sys2Proof.Machine

section
variable {i : Instr} {s : State} {len : Addr} {f : Bool → Bool → Bool}

/-! A logic instruction moves its result, with the flags of a move (R280). -/

theorem bitwiseByte_of {rd : R8} {x r : Byte} (hu : s.undisturbed)
    (hr : ∀ k, k < 8 → r.getLsbD k = f ((s.reg8 rd).getLsbD k) (x.getLsbD k))
    (e : exec i s = goNext len (s.move8 rd r)) : BitwiseByte i s len rd x f :=
  fun hf => ⟨r, hr, writesByteReg_move hu e hf⟩

theorem bitwiseWord_of {rd : R16} {x r : Word} (hu : s.undisturbed)
    (hr : ∀ k, k < 16 → r.getLsbD k = f ((s.reg16 rd).getLsbD k) (x.getLsbD k))
    (e : exec i s = goNext len (s.move16 rd r)) : BitwiseWord i s len rd x f :=
  fun hf => ⟨r, hr, writesWordReg_move hu e hf⟩

theorem bitwiseLong_of {n : ERn} {x r : Long} (hu : s.undisturbed)
    (hr : ∀ k, k < 32 → r.getLsbD k = f ((s.er n).getLsbD k) (x.getLsbD k))
    (e : exec i s = goNext len (s.move32 n r)) : BitwiseLong i s len n x f :=
  fun hf => ⟨r, hr, writesLongReg_move hu e hf⟩

end

theorem getLsbD_not_of_lt {w k : Nat} (d : BitVec w) (hk : k < w) : (~~~d).getLsbD k = !d.getLsbD k := by
  rw [BitVec.getLsbD_not, decide_eq_true hk, Bool.true_and]

/-- Settles O28: each form moves the operation of its operands, which acts on every bit. -/
theorem logicBitwise : Obligations.LogicBitwise := fun _ hu =>
  ⟨fun _ _ => bitwiseByte_of hu (fun _ _ => BitVec.getLsbD_and) rfl,
    fun _ _ => bitwiseByte_of hu (fun _ _ => BitVec.getLsbD_and) rfl,
    fun _ _ => bitwiseWord_of hu (fun _ _ => BitVec.getLsbD_and) rfl,
    fun _ _ => bitwiseWord_of hu (fun _ _ => BitVec.getLsbD_and) rfl,
    fun _ _ => bitwiseLong_of hu (fun _ _ => BitVec.getLsbD_and) rfl,
    fun _ _ => bitwiseLong_of hu (fun _ _ => BitVec.getLsbD_and) rfl,
    fun _ _ => bitwiseByte_of hu (fun _ _ => BitVec.getLsbD_or) rfl,
    fun _ _ => bitwiseByte_of hu (fun _ _ => BitVec.getLsbD_or) rfl,
    fun _ _ => bitwiseWord_of hu (fun _ _ => BitVec.getLsbD_or) rfl,
    fun _ _ => bitwiseWord_of hu (fun _ _ => BitVec.getLsbD_or) rfl,
    fun _ _ => bitwiseLong_of hu (fun _ _ => BitVec.getLsbD_or) rfl,
    fun _ _ => bitwiseLong_of hu (fun _ _ => BitVec.getLsbD_or) rfl,
    fun _ _ => bitwiseByte_of hu (fun _ _ => BitVec.getLsbD_xor) rfl,
    fun _ _ => bitwiseByte_of hu (fun _ _ => BitVec.getLsbD_xor) rfl,
    fun _ _ => bitwiseWord_of hu (fun _ _ => BitVec.getLsbD_xor) rfl,
    fun _ _ => bitwiseWord_of hu (fun _ _ => BitVec.getLsbD_xor) rfl,
    fun _ _ => bitwiseLong_of hu (fun _ _ => BitVec.getLsbD_xor) rfl,
    fun _ _ => bitwiseLong_of hu (fun _ _ => BitVec.getLsbD_xor) rfl,
    fun _ => bitwiseByte_of hu (fun _ => getLsbD_not_of_lt _) rfl,
    fun _ => bitwiseWord_of hu (fun _ => getLsbD_not_of_lt _) rfl,
    fun _ => bitwiseLong_of hu (fun _ => getLsbD_not_of_lt _) rfl⟩

end Sys2Proof.Machine
end

section
/-! ### Shifts and rotates (O29) -/

namespace Sys2Proof.Machine

/-! The model shifts by one place and puts the bit shifted in beside it; the table's numbers have the same bits. -/

theorem getLsbD_lowBit (w : Nat) (b : Bool) (k : Nat) :
    (lowBit w b).getLsbD k = (decide (k < w) && decide (k = 0) && b) := by
  cases b <;> cases k <;> simp [lowBit]

theorem getLsbD_highBit {w k : Nat} (b : Bool) (hk : k < w) :
    (highBit w b).getLsbD k = (decide (k = w - 1) && b) := by
  rw [highBit, BitVec.getLsbD_shiftLeft, getLsbD_lowBit]
  by_cases h : k = w - 1
  · simp [h, show w - 1 < w by omega, show 0 < w by omega]
  · simp [h, show k < w - 1 by omega]

theorem shiftLeft_or_lowBit {w : Nat} (d : BitVec w) (b : Bool) : d <<< 1 ||| lowBit w b = shiftedLeft d b := by
  apply BitVec.eq_of_getLsbD_eq
  intro k hk
  rw [shiftedLeft, ← Nat.bit_val, BitVec.getLsbD_ofNat, BitVec.getLsbD_or, BitVec.getLsbD_shiftLeft, getLsbD_lowBit]
  cases k with
  | zero => simp [hk]
  | succ j => simp [hk, Nat.testBit_bit_succ, BitVec.getLsbD]

theorem shiftRight_or_highBit {w : Nat} (d : BitVec w) (b : Bool) : d >>> 1 ||| highBit w b = shiftedRight d b := by
  apply BitVec.eq_of_getLsbD_eq
  intro k hk
  have hlow : d.toNat / 2 < 2 ^ (w - 1) :=
    Nat.div_lt_of_lt_mul (d.isLt.trans_eq (mul_pow_sub_one (by omega) 2).symm)
  rw [shiftedRight, Nat.add_comm, Nat.mul_comm, BitVec.getLsbD_ofNat, Nat.testBit_two_pow_mul_add _ hlow,
    BitVec.getLsbD_or, BitVec.getLsbD_ushiftRight, getLsbD_highBit b hk]
  split
  next => simp [hk, show k ≠ w - 1 by omega, BitVec.getLsbD, Nat.testBit_div_two, Nat.add_comm]
  next =>
    obtain rfl : k = w - 1 := by omega
    cases b <;> simp [hk, BitVec.getLsbD_of_ge d (1 + (w - 1)) (by omega)]

theorem lowBit_false (w : Nat) : lowBit w false = 0#w := rfl

theorem highBit_false (w : Nat) : highBit w false = 0#w := by simp [highBit, lowBit_false]

theorem shiftLeft_one {w : Nat} (d : BitVec w) : d <<< 1 = shiftedLeft d false := by
  rw [← shiftLeft_or_lowBit, lowBit_false, BitVec.or_zero]

theorem shiftRight_one {w : Nat} (d : BitVec w) : d >>> 1 = shiftedRight d false := by
  rw [← shiftRight_or_highBit, highBit_false, BitVec.or_zero]

/-! The rows of the table: the result, V and C of each operation at every width. -/

section
variable {w : Nat} (d : BitVec w) (c : Bool)

theorem shal_eq : shal d = ⟨shiftedLeft d false, d.msb ^^ d.getLsbD (w - 2), d.msb⟩ := by
  rw [shal, shiftLeft_one]

theorem shll_eq : shll d = ⟨shiftedLeft d false, false, d.msb⟩ := by rw [shll, shiftLeft_one]

theorem rotl_eq : rotl d = ⟨shiftedLeft d d.msb, false, d.msb⟩ := by rw [rotl, shiftLeft_or_lowBit]

theorem rotxl_eq : rotxl d c = ⟨shiftedLeft d c, false, d.msb⟩ := by rw [rotxl, shiftLeft_or_lowBit]

theorem shar_eq : shar d = ⟨shiftedRight d d.msb, false, d.getLsbD 0⟩ := by rw [shar, shiftRight_or_highBit]

theorem shlr_eq : shlr d = ⟨shiftedRight d false, false, d.getLsbD 0⟩ := by rw [shlr, shiftRight_one]

theorem rotr_eq : rotr d = ⟨shiftedRight d (d.getLsbD 0), false, d.getLsbD 0⟩ := by
  rw [rotr, shiftRight_or_highBit]

theorem rotxr_eq : rotxr d c = ⟨shiftedRight d c, false, d.getLsbD 0⟩ := by rw [rotxr, shiftRight_or_highBit]

end

/-- CCR after a shift or rotate: N and Z of the result, V and C as given. -/
theorem shiftFlags_eq {w : Nat} (s : State) (r : BitVec w) (v c : Bool) :
    shiftFlags s.ccr r v c = s.ccrNZVC r.msb (decide (r.toNat = 0)) v c := by
  apply ccr_ext
  intro f
  cases f <;> simp [shiftFlags, ccrNZ, State.ccrNZVC, State.ccrHNZVC, State.flag, bitVec_zero_iff]

/-- A shift or rotate whose row of the table is `r`, `v`, `c`. -/
theorem completes_shift {i : Instr} {s : State} {len : Addr} {w : Nat} {put : BitVec w → State} {x : Shifted w}
    {r : BitVec w} {v c : Bool} (row : x = ⟨r, v, c⟩) (hu : s.undisturbed) (hp : s.PutsRegs put)
    (e : exec i s = goNext len ((put x.r).withCcr (shiftFlags s.ccr x.r x.v x.c))) :
    Completes i s len (put r).regs (s.ccrNZVC r.msb (decide (r.toNat = 0)) v c) := by
  subst row
  rw [← shiftFlags_eq]
  exact completes_put hu hp e

/-- Settles O29: each form puts its operation's row into the register of its size. -/
theorem shiftRotateTable : Obligations.ShiftRotateTable := fun s hu =>
  have byte := s.putsRegs_setReg8
  have word := s.putsRegs_setReg16
  have long := s.putsRegs_setEr
  ⟨fun rd => completes_shift (shal_eq ..) hu (byte rd) rfl, fun rd => completes_shift (shal_eq ..) hu (word rd) rfl,
    fun n => completes_shift (shal_eq ..) hu (long n) rfl,
    fun rd => completes_shift (shll_eq ..) hu (byte rd) rfl, fun rd => completes_shift (shll_eq ..) hu (word rd) rfl,
    fun n => completes_shift (shll_eq ..) hu (long n) rfl,
    fun rd => completes_shift (rotl_eq ..) hu (byte rd) rfl, fun rd => completes_shift (rotl_eq ..) hu (word rd) rfl,
    fun n => completes_shift (rotl_eq ..) hu (long n) rfl,
    fun rd => completes_shift (rotxl_eq ..) hu (byte rd) rfl, fun rd => completes_shift (rotxl_eq ..) hu (word rd) rfl,
    fun n => completes_shift (rotxl_eq ..) hu (long n) rfl,
    fun rd => completes_shift (shar_eq ..) hu (byte rd) rfl, fun rd => completes_shift (shar_eq ..) hu (word rd) rfl,
    fun n => completes_shift (shar_eq ..) hu (long n) rfl,
    fun rd => completes_shift (shlr_eq ..) hu (byte rd) rfl, fun rd => completes_shift (shlr_eq ..) hu (word rd) rfl,
    fun n => completes_shift (shlr_eq ..) hu (long n) rfl,
    fun rd => completes_shift (rotr_eq ..) hu (byte rd) rfl, fun rd => completes_shift (rotr_eq ..) hu (word rd) rfl,
    fun n => completes_shift (rotr_eq ..) hu (long n) rfl,
    fun rd => completes_shift (rotxr_eq ..) hu (byte rd) rfl, fun rd => completes_shift (rotxr_eq ..) hu (word rd) rfl,
    fun n => completes_shift (rotxr_eq ..) hu (long n) rfl⟩

end Sys2Proof.Machine
end

section
/-! ### Bit manipulation (O30, O31) -/

namespace Sys2Proof.Machine

theorem State.bitNumber_eq_lowBits (s : State) (rn : R8) : s.bitNumber rn = s.lowBits rn := by
  apply BitVec.eq_of_toNat_eq
  simp [State.bitNumber, State.lowBits]

/-! The bits of the bytes that are written back. -/

section
variable (n : BitVec 3) (v : Byte) {k : Nat}

theorem getLsbD_one_shiftLeft {m : Nat} (hk : k < 8) : (1#8 <<< m).getLsbD k = decide (k = m) := by
  obtain rfl | h := eq_or_ne k m
  · simp [hk]
  · have hsub : m ≤ k → k - m ≠ 0 := by omega
    simpa [hk, h] using hsub

theorem getLsbD_setBit (hk : k < 8) : (setBit n v).getLsbD k = if k = n.toNat then true else v.getLsbD k := by
  rw [setBit, BitVec.getLsbD_or, getLsbD_one_shiftLeft hk]
  split <;> simp [*]

theorem getLsbD_clearBit (hk : k < 8) : (clearBit n v).getLsbD k = if k = n.toNat then false else v.getLsbD k := by
  rw [clearBit, BitVec.getLsbD_and, getLsbD_not_of_lt _ hk, getLsbD_one_shiftLeft hk]
  split <;> simp [*]

theorem getLsbD_invertBit (hk : k < 8) :
    (invertBit n v).getLsbD k = if k = n.toNat then !v.getLsbD k else v.getLsbD k := by
  rw [invertBit, BitVec.getLsbD_xor, getLsbD_one_shiftLeft hk]
  split <;> simp [*]

/-! The same bytes as numbers, from `setBit_eq_withBit`. -/

/-- BCLR clears the bit (R344): a bit that is 1 loses its weight. -/
theorem clearBit_eq_withBit : clearBit n v = withBit n false v := by
  rw [withBit, Bool.toNat_false, Nat.zero_mul, Nat.add_zero]
  cases hv : v.getLsbD n.toNat with
  | true =>
    have hsplit : clearBit n v ||| 1#8 <<< n.toNat = v := by
      apply BitVec.eq_of_getLsbD_eq
      intro k hk
      rw [BitVec.getLsbD_or, getLsbD_clearBit n v hk, getLsbD_one_shiftLeft hk]
      split <;> simp [*]
    have hapart : clearBit n v &&& 1#8 <<< n.toNat = 0#8 := by
      apply BitVec.eq_of_getLsbD_eq
      intro k hk
      rw [BitVec.getLsbD_and, getLsbD_clearBit n v hk, getLsbD_one_shiftLeft hk]
      split <;> simp [*]
    have hweight : (1#8 <<< n.toNat).toNat = 2 ^ n.toNat := BitVec.toNat_twoPow_of_lt (by omega)
    have hsum : v.toNat = (clearBit n v).toNat + 2 ^ n.toNat := by
      rw [← hweight, ← BitVec.toNat_add_of_and_eq_zero hapart, BitVec.add_eq_or_of_and_eq_zero _ _ hapart, hsplit]
    rw [Bool.toNat_true, Nat.one_mul, hsum, Nat.add_sub_cancel, BitVec.ofNat_toNat, BitVec.setWidth_eq]
  | false =>
    rw [Bool.toNat_false, Nat.zero_mul, Nat.sub_zero, BitVec.ofNat_toNat, BitVec.setWidth_eq]
    apply BitVec.eq_of_getLsbD_eq
    intro k hk
    rw [getLsbD_clearBit n v hk]
    split <;> simp [*]

/-- BNOT clears a bit that is 1 and sets one that is 0 (R345). -/
theorem invertBit_eq_withBitInverted : invertBit n v = withBitInverted n v := by
  rw [withBitInverted]
  cases hv : v.getLsbD n.toNat with
  | true =>
    rw [Bool.not_true, ← clearBit_eq_withBit]
    apply BitVec.eq_of_getLsbD_eq
    intro k hk
    rw [getLsbD_invertBit n v hk, getLsbD_clearBit n v hk]
    split <;> simp [*]
  | false =>
    rw [Bool.not_false, ← setBit_eq_withBit]
    apply BitVec.eq_of_getLsbD_eq
    intro k hk
    rw [getLsbD_invertBit n v hk, getLsbD_setBit n v hk]
    split <;> simp [*]

/-- BST and BIST set the bit or clear it (R355, R356). -/
theorem storeBit_eq_withBit (b : Bool) : storeBit n b v = withBit n b v := by
  cases b with
  | true => exact setBit_eq_withBit n v
  | false => exact clearBit_eq_withBit n v

end

/-! The CCR a bit operation gives: Z or C alone is put. -/

theorem State.ccrPut_z_eq (s : State) (b : Bool) :
    ccrPut s.ccr .z b = s.ccrNZVC (s.flag .n) b (s.flag .v) (s.flag .c) := by
  apply ccr_ext
  intro f
  cases f <;> simp [State.ccrNZVC, State.ccrHNZVC, State.flag]

theorem State.ccrPut_c_eq (s : State) (b : Bool) :
    ccrPut s.ccr .c b = s.ccrNZVC (s.flag .n) (s.flag .z) (s.flag .v) b := by
  apply ccr_ext
  intro f
  cases f <;> simp [State.ccrNZVC, State.ccrHNZVC, State.flag]

/-- BIXOR: the exclusive or with the inverse of the bit is the inverse of the exclusive or (R352). -/
theorem State.bitIXor_eq (s : State) (n : BitVec 3) (v : Byte) :
    bitIXor n s.ccr v = s.ccrNZVC (s.flag .n) (s.flag .z) (s.flag .v) (!(s.flag .c ^^ v.getLsbD n.toNat)) := by
  rw [← Bool.xor_not]
  exact s.ccrPut_c_eq _

/-! The four shapes: a register or a memory byte, rewritten or tested. -/

section
variable {i : Instr} {s : State} {rd : R8} {ea : Addr} {f : Byte → Byte}

theorem rewritesReg_of {g : Byte → Byte} (hg : ∀ v, g v = f v) (hu : s.undisturbed)
    (e : exec i s = bitWriteReg 2 rd g s) : RewritesReg i s rd f :=
  completes_of hu (by rw [e, bitWriteReg, hg]; rfl)

theorem rewritesMem_of {g : Byte → Byte} (hg : ∀ v, g v = f v) (hu : s.undisturbed)
    (e : exec i s = bitWriteMem 4 ea g s) : RewritesMem i s ea f := fun hf hr hw =>
  completesStoring_of rfl rfl (State.stored_write8 ((s.sawRead8 ea).past 4) ea _) <| by
    rw [e, bitWriteMem, load8_of s ea _ hu hr, advance_of 4 (s.sawRead8 ea) _ hu hf, hg]
    exact store8_of ((s.sawRead8 ea).past 4) ea _ _ hu hw

theorem testsReg_of (g : Byte → Byte → Byte) (hg : ∀ v, g s.ccr v = f v) (hu : s.undisturbed)
    (e : exec i s = goNext 2 (s.withCcr (g s.ccr (s.reg8 rd)))) : TestsReg i s rd f :=
  completes_of hu (by rw [e, hg]; rfl)

theorem testsMem_of (g : Byte → Byte → Byte) (hg : ∀ v, g s.ccr v = f v) (hu : s.undisturbed)
    (e : exec i s = bitReadMem 4 ea g s) : TestsMem i s ea f := fun hr hf => by
  rw [e, bitReadMem, load8_of s ea _ hu hr, State.sawRead8_ccr, hg]
  exact goNext_of 4 ((s.sawRead8 ea).withCcr _) hu hf

end

/-- Settles O30: each form rewrites its byte by its operation, the bit number immediate or from a register. -/
theorem bitRewrite : Obligations.BitRewrite := by
  intro s hu
  simp only [← State.bitNumber_eq_lowBits]
  exact ⟨fun n _ => rewritesReg_of (setBit_eq_withBit n) hu rfl,
    fun _ _ => rewritesReg_of (setBit_eq_withBit _) hu rfl,
    fun n _ => rewritesReg_of (clearBit_eq_withBit n) hu rfl,
    fun _ _ => rewritesReg_of (clearBit_eq_withBit _) hu rfl,
    fun n _ => rewritesReg_of (invertBit_eq_withBitInverted n) hu rfl,
    fun _ _ => rewritesReg_of (invertBit_eq_withBitInverted _) hu rfl,
    fun n _ => rewritesReg_of (storeBit_eq_withBit n · _) hu rfl,
    fun n _ => rewritesReg_of (storeBit_eq_withBit n · _) hu rfl,
    fun n _ => rewritesMem_of (setBit_eq_withBit n) hu rfl,
    fun n _ => rewritesMem_of (setBit_eq_withBit n) hu rfl,
    fun _ _ => rewritesMem_of (setBit_eq_withBit _) hu rfl,
    fun _ _ => rewritesMem_of (setBit_eq_withBit _) hu rfl,
    fun n _ => rewritesMem_of (clearBit_eq_withBit n) hu rfl,
    fun n _ => rewritesMem_of (clearBit_eq_withBit n) hu rfl,
    fun _ _ => rewritesMem_of (clearBit_eq_withBit _) hu rfl,
    fun _ _ => rewritesMem_of (clearBit_eq_withBit _) hu rfl,
    fun n _ => rewritesMem_of (invertBit_eq_withBitInverted n) hu rfl,
    fun n _ => rewritesMem_of (invertBit_eq_withBitInverted n) hu rfl,
    fun _ _ => rewritesMem_of (invertBit_eq_withBitInverted _) hu rfl,
    fun _ _ => rewritesMem_of (invertBit_eq_withBitInverted _) hu rfl,
    fun n _ => rewritesMem_of (storeBit_eq_withBit n · _) hu rfl,
    fun n _ => rewritesMem_of (storeBit_eq_withBit n · _) hu rfl,
    fun n _ => rewritesMem_of (storeBit_eq_withBit n · _) hu rfl,
    fun n _ => rewritesMem_of (storeBit_eq_withBit n · _) hu rfl⟩

/-- Settles O31: each form puts one flag, from its register or memory byte. -/
theorem bitTestAndCarry : Obligations.BitTestAndCarry := by
  intro s hu
  simp only [← State.bitNumber_eq_lowBits]
  exact ⟨fun n _ => testsReg_of (bitTest n) (fun _ => s.ccrPut_z_eq _) hu rfl,
    fun n _ => testsMem_of (bitTest n) (fun _ => s.ccrPut_z_eq _) hu rfl,
    fun n _ => testsMem_of (bitTest n) (fun _ => s.ccrPut_z_eq _) hu rfl,
    fun rn _ => testsReg_of (bitTest (s.bitNumber rn)) (fun _ => s.ccrPut_z_eq _) hu rfl,
    fun rn _ => testsMem_of (bitTest (s.bitNumber rn)) (fun _ => s.ccrPut_z_eq _) hu rfl,
    fun rn _ => testsMem_of (bitTest (s.bitNumber rn)) (fun _ => s.ccrPut_z_eq _) hu rfl,
    fun n _ => testsReg_of (bitAnd n) (fun _ => s.ccrPut_c_eq _) hu rfl,
    fun n _ => testsMem_of (bitAnd n) (fun _ => s.ccrPut_c_eq _) hu rfl,
    fun n _ => testsMem_of (bitAnd n) (fun _ => s.ccrPut_c_eq _) hu rfl,
    fun n _ => testsReg_of (bitIAnd n) (fun _ => s.ccrPut_c_eq _) hu rfl,
    fun n _ => testsMem_of (bitIAnd n) (fun _ => s.ccrPut_c_eq _) hu rfl,
    fun n _ => testsMem_of (bitIAnd n) (fun _ => s.ccrPut_c_eq _) hu rfl,
    fun n _ => testsReg_of (bitOr n) (fun _ => s.ccrPut_c_eq _) hu rfl,
    fun n _ => testsMem_of (bitOr n) (fun _ => s.ccrPut_c_eq _) hu rfl,
    fun n _ => testsMem_of (bitOr n) (fun _ => s.ccrPut_c_eq _) hu rfl,
    fun n _ => testsReg_of (bitIOr n) (fun _ => s.ccrPut_c_eq _) hu rfl,
    fun n _ => testsMem_of (bitIOr n) (fun _ => s.ccrPut_c_eq _) hu rfl,
    fun n _ => testsMem_of (bitIOr n) (fun _ => s.ccrPut_c_eq _) hu rfl,
    fun n _ => testsReg_of (bitXor n) (fun _ => s.ccrPut_c_eq _) hu rfl,
    fun n _ => testsMem_of (bitXor n) (fun _ => s.ccrPut_c_eq _) hu rfl,
    fun n _ => testsMem_of (bitXor n) (fun _ => s.ccrPut_c_eq _) hu rfl,
    fun n _ => testsReg_of (bitIXor n) (s.bitIXor_eq n) hu rfl,
    fun n _ => testsMem_of (bitIXor n) (s.bitIXor_eq n) hu rfl,
    fun n _ => testsMem_of (bitIXor n) (s.bitIXor_eq n) hu rfl,
    fun n _ => testsReg_of (bitLoad n) (fun _ => s.ccrPut_c_eq _) hu rfl,
    fun n _ => testsMem_of (bitLoad n) (fun _ => s.ccrPut_c_eq _) hu rfl,
    fun n _ => testsMem_of (bitLoad n) (fun _ => s.ccrPut_c_eq _) hu rfl,
    fun n _ => testsReg_of (bitILoad n) (fun _ => s.ccrPut_c_eq _) hu rfl,
    fun n _ => testsMem_of (bitILoad n) (fun _ => s.ccrPut_c_eq _) hu rfl,
    fun n _ => testsMem_of (bitILoad n) (fun _ => s.ccrPut_c_eq _) hu rfl⟩

end Sys2Proof.Machine
end

section
/-! ### A call and its return (O37)

What a call leaves, whichever form it has; RTS reads the return address back from the frame and undoes the rest. -/

namespace Sys2Proof.Machine

/-- What every call leaves of the machine `s` (R413): ER7 moved, the frame of `ret` written whatever its reserved byte,
the other registers and CCR unchanged. `s1` is the machine when the frame is written. -/
structure State.Called (s : State) (ret : Addr) (t : State) : Prop where
  regs : t.regs = (s.setEr .er7 (s.er .er7 - s.returnSize)).regs
  ccr : t.ccr = s.ccr
  env : t.env = s.env
  params : t.params = s.params
  frame : ∃ (s1 : State) (rsv : Byte), s1.params = s.params ∧ s1.Stored t (s.returnFrame ret rsv)

section
variable {i : Instr} {s t : State} {a ret target : Addr}

/-! The frame read back. -/

/-- A word stored in RAM, by any of the accesses made, is read back. -/
theorem State.Stored.read16 {accesses : List Config.BusAccess} {v : Word} (h : s.Stored t accesses)
    (hm : s.params.map = []) (hp : t.params = s.params) (hv : .writeWord (s.phys (evenAddr a)) v ∈ accesses) :
    t.read16 .data a = v := by
  have holds : ∀ c ∈ accessBytes (.writeWord (s.phys (evenAddr a)) v), t.busByte .data c.1 = c.2 := fun c hc =>
    h.holds c (List.mem_flatMap.mpr ⟨_, hv, hc⟩) (by rw [hm, kindAt_nil])
  have hphys : t.phys = s.phys := congrArg physOf hp
  rw [State.read16, State.read8, State.read8, phys_succ, hphys, holds (_, v.extractLsb' 8 8) (by simp [accessBytes]),
    holds (_, v.extractLsb' 0 8) (by simp [accessBytes])]
  exact BitVec.extractLsb'_append_extractLsb'_eq_extractLsb' rfl |>.trans BitVec.extractLsb'_eq_self

/-- An address that PC may hold is loaded as it is. -/
theorem State.PcOk.loadPc (h : s.PcOk a) : s.loadPc a = a := by
  obtain ⟨heven, hnormal⟩ := h
  have hwrap : wrapPc s.params.mode a = a := by
    cases hmode : s.params.mode with
    | normal => exact BitVec.eq_of_toNat_eq ((wrapPc_normal_toNat a).trans (Nat.mod_eq_of_lt (hnormal hmode)))
    | advanced => rfl
  rw [State.loadPc, hwrap, evenAddr_of_even a heven]

theorem State.returnSize_congr (hp : t.params = s.params) : t.returnSize = s.returnSize := by
  rw [State.returnSize, State.returnSize, hp]

/-- `pop_pc` finds the address that the call saved: the reserved byte is not looked at (R413). -/
theorem State.Called.returnAddress (h : s.Called ret t) (hm : s.params.map = []) (hret : s.PcOk ret) :
    t.returnAddress = ret := by
  obtain ⟨s1, rsv, hp1, hstored⟩ := h.frame
  have hphys : s1.phys = s.phys := congrArg physOf hp1
  have hread {b v} (hv : .writeWord (s.phys (evenAddr b)) v ∈ s.returnFrame ret rsv) : t.read16 .data b = v :=
    hstored.read16 (hp1 ▸ hm) (h.params.trans hp1.symm) (hphys ▸ hv)
  have hsp : t.eaAt .er7 = low24 (s.er .er7 - s.returnSize) := by
    rw [State.eaAt, State.er, h.regs]
    exact s.eaAt_setEr_same .er7 _
  rw [State.returnAddress, hsp, State.sawRead16_ram _ _ (h.params ▸ hm), h.params]
  cases hmode : s.params.mode with
  | normal =>
    have hword : t.read16 .data (low24 (s.er .er7 - 2)) = ret.extractLsb' 0 16 :=
      hread (by simp [State.returnFrame, hmode, State.storedWord])
    simp only [State.returnSize, hmode, hword]
    have hlt := hret.2 hmode
    apply BitVec.eq_of_toNat_eq
    simp only [BitVec.truncate_eq_setWidth, BitVec.toNat_setWidth, BitVec.extractLsb'_toNat]
    omega
  | advanced =>
    have hhigh : t.read16 .data (low24 (s.er .er7 - 4)) = rsv ++ ret.extractLsb' 16 8 :=
      hread (by simp [State.returnFrame, hmode, State.storedWord])
    have hlow : t.read16 .data (low24 (s.er .er7 - 4) + 2) = ret.extractLsb' 0 16 :=
      hread (by simp [State.returnFrame, hmode, State.storedWord])
    simp only [State.returnSize, hmode, hhigh, hlow]
    rw [BitVec.extractLsb'_append_eq_right]
    exact BitVec.extractLsb'_append_extractLsb'_eq_extractLsb' rfl |>.trans BitVec.extractLsb'_eq_self

theorem State.sawReturn_regs (s : State) : s.sawReturn.regs = s.regs := by
  unfold State.sawReturn; cases s.params.mode <;> rfl

theorem State.sawReturn_ccr (s : State) : s.sawReturn.ccr = s.ccr := by
  unfold State.sawReturn; cases s.params.mode <;> rfl

/-- RTS after a call undoes what the call did to PC and ER7 (R415). -/
theorem State.Called.rts (h : s.Called ret t) (hu : s.undisturbed) (hm : s.params.map = []) (hret : s.PcOk ret) :
    ∃ u, exec .rts t = .next u ∧ u.pc = ret ∧ u.regs = s.regs ∧ u.ccr = s.ccr := by
  have hmt : t.params.map = [] := h.params ▸ hm
  refine ⟨_, subroutineReturn t ((congrArg Env.slots h.env).trans hu) (State.reads_ram hmt), ?_, ?_, ?_⟩
  · rw [State.atPc_pc, State.sawNext, t.sawRead16_ram _ hmt, h.returnAddress hm hret, State.loadPc_congr h.params,
      hret.loadPc]
  · have her : t.er .er7 = s.er .er7 - s.returnSize :=
      (congrArg (·.get .er7) h.regs).trans (s.er_setEr_same .er7 _)
    rw [State.atPc_regs, State.setEr_regs, State.sawReturn_regs, State.sawNext, State.sawRead16_regs, her,
      State.returnSize_congr h.params, BitVec.sub_add_cancel, h.regs, ← State.setEr_regs, State.setEr_setEr,
      State.setEr_er]
  · rw [State.atPc_ccr, State.setEr_ccr, State.sawReturn_ccr, State.sawNext, State.sawRead16_ccr, h.ccr]

/-! The call forms leave such a machine where RAM takes the frame. -/

theorem State.readsComplete.canReadPointer (h : s.readsComplete) : s.canReadPointer a := by
  unfold State.canReadPointer
  cases s.params.mode
  · exact ⟨h _, h _⟩
  · exact ⟨⟨h _, h _⟩, h _, h _⟩

theorem State.writesComplete.canPush (h : s.writesComplete) : s.canPush := by
  unfold State.canPush
  cases s.params.mode
  · exact ⟨h _, h _⟩
  · exact ⟨⟨h _, h _⟩, h _, h _⟩

theorem Calls.called {s0 : State} (h : Calls i s s0 ret target) (hp : s0.params = s.params) (he : s0.env = s.env)
    (hm : s.params.map = []) (e : exec i s = .next t) : s.Called ret t := by
  have hr := State.reads_ram hm
  obtain ⟨rsv, t', e', hregs, hccr, -, -, hc, hstored⟩ := h ⟨hr _, hr _⟩ (State.writes_ram hm).canPush
  obtain rfl : t' = t := Host.Outcome.next.inj (e'.symm.trans e)
  exact ⟨hregs, hccr, hc.env.trans he, hc.params.trans hp, s0.atPc _, rsv, hp, hstored⟩

/-- JSR @@aa:8 fetches the target after the frame is written; from RAM that fetch leaves no trace. -/
theorem called_jsrInd8 {b : Byte} (hu : s.undisturbed) (hm : s.params.map = []) (e : exec (.jsrInd8 b) s = .next t) :
    s.Called (s.nextPc 2) t := by
  have hr := State.reads_ram hm
  obtain ⟨-, -, -, -, hind⟩ := subroutineCalls s hu
  obtain ⟨u, rsv, e', hregs, hccr, hc, hstored⟩ :=
    hind b ⟨hr _, hr _⟩ hr.canReadPointer ⟨hr _, hr _⟩ (State.writes_ram hm).canPush
  obtain rfl := Host.Outcome.next.inj (e'.symm.trans e)
  have hsaw (a : Addr) : (u.sawRead16 a).devLog = u.devLog :=
    congrArg State.devLog (u.sawRead16_ram a (hc.params ▸ hm))
  exact ⟨hregs, hccr, hc.env, hc.params, _, rsv, s.sawNext.sawPointer_params _,
    hstored.of_eq rfl rfl rfl rfl rfl rfl rfl (hsaw _)⟩

/-- Settles O37: each form leaves a machine that RTS returns from, its return address one that PC may hold. -/
theorem callThenReturn : Obligations.CallThenReturn := by
  intro s t i len hu hm hinv hi e
  obtain ⟨hbsr8, hbsr16, hjsrReg, hjsrAbs, -⟩ := subroutineCalls s hu
  have hf : s.canFetch 2 := ⟨State.reads_ram hm _, State.reads_ram hm _⟩
  have hcall : len.getLsbD 0 = false ∧ s.Called (s.nextPc len) t := by
    obtain ⟨d, rfl, rfl⟩ | ⟨d, rfl, rfl⟩ | ⟨n, rfl, rfl⟩ | ⟨a, rfl, rfl⟩ | ⟨a, rfl, rfl⟩ := hi
    · exact ⟨rfl, (hbsr8 d hf).called rfl rfl hm e⟩
    · exact ⟨rfl, (hbsr16 d).called rfl rfl hm e⟩
    · exact ⟨rfl, (hjsrReg n hf).called rfl rfl hm e⟩
    · exact ⟨rfl, (hjsrAbs a).called rfl rfl hm e⟩
    · exact ⟨rfl, called_jsrInd8 hu hm e⟩
  obtain ⟨hlen, hcalled⟩ := hcall
  exact hcalled.rts hu hm (State.pcOk_nextPc hlen hinv.pcOk)

end
end Sys2Proof.Machine
end

section
/-! ### CCR loaded and stored, NOP, SLEEP (O38, O39, O58) -/

namespace Sys2Proof.Machine

section
variable {i : Instr} {s : State} {len ea : Addr}

/-- The high byte of a word is the one at the even address (R64). -/
theorem State.read16_high (s : State) (why : Config.ReadPurpose) (a : Addr) :
    (s.read16 why a).extractLsb' 8 8 = s.read8 why (evenAddr a) := BitVec.extractLsb'_append_eq_left

/-- CCR written, then the next word fetched: the same as both at once. -/
theorem goNext_loadCcr_of (v : Byte) (hu : s.undisturbed) (hf : s.canFetch len) :
    goNext len (s.loadCcr v) = .next { s.fallThrough len s.regs v with intInhibit := true } :=
  goNext_of len (s.loadCcr v) hu hf

theorem loadsCcrWord_of (hu : s.undisturbed) (e : exec i s = ldcWord len ea s) : LoadsCcrWord i s len ea s.regs := by
  intro hf hr
  rw [e, ldcWord, advance_of _ _ _ hu hf, load16_of (s.past len) ea _ hu hr, State.read16_high]
  rfl

theorem loadsCcrWord_post {n : ERn} (hu : s.undisturbed) (e : exec i s = ldcPost len n s) :
    LoadsCcrWord i s len (s.eaAt n) (s.setEr n (s.er n + 2)).regs := by
  intro hf hr
  rw [e, ldcPost, advance_of _ _ _ hu hf]
  refine (load16_of (s.past len) (s.eaAt n) _ hu hr).trans ?_
  rw [State.read16_high]
  rfl

/-- Settles O38: the forms without a memory operand are `loadCcr` before the fetch, the others LDC.W at their own length
and effective address. -/
theorem loadCcr : Obligations.LoadCcr := fun s hu =>
  ⟨fun v => goNext_loadCcr_of v hu, fun r => goNext_loadCcr_of (s.reg8 r) hu,
    fun v => goNext_loadCcr_of (s.ccr &&& v) hu, fun v => goNext_loadCcr_of (s.ccr ||| v) hu,
    fun v => goNext_loadCcr_of (s.ccr ^^^ v) hu, fun _ => loadsCcrWord_of hu rfl, fun _ _ => loadsCcrWord_of hu rfl,
    fun _ _ => loadsCcrWord_of hu rfl, fun _ => loadsCcrWord_post hu rfl, fun _ => loadsCcrWord_of hu rfl,
    fun _ => loadsCcrWord_of hu rfl⟩

/-- STC.W: the byte at the odd address is the draw (D16). -/
theorem storesCcrWord_of {regs : RegFile} (hu : s.undisturbed) (e : exec i s = stcWord len ea { s with regs := regs }) :
    StoresCcrWord i s len ea regs := fun hf hw =>
  ⟨s.free8 0, completesStoring_of rfl rfl (State.stored_write16 _ ea (s.ccr ++ s.free8 0)) <| by
    rw [e, stcWord, advance_of len { s with regs := regs } _ hu hf]
    exact store16_of { s.past len with regs := regs } ea _ _ hu hw⟩

/-- STC.W @-ERd: the store begins with ERd decremented, which gives the address. -/
theorem storesCcrWord_pre {n : ERn} (hu : s.undisturbed) (e : exec i s = stcPre len n s) :
    StoresCcrWord i s len (low24 (s.er n - 2)) (s.setEr n (s.er n - 2)).regs := by
  rw [← s.eaAt_setEr_same n]
  exact storesCcrWord_of hu e

/-- Settles O39: STC to a register and NOP write registers alone, the others are STC.W at their own length and effective
address. -/
theorem storeCcr : Obligations.StoreCcr := fun _ hu =>
  ⟨fun _ => completes_of hu rfl, completes_of hu rfl, fun _ => storesCcrWord_of hu rfl,
    fun _ _ => storesCcrWord_of hu rfl, fun _ _ => storesCcrWord_of hu rfl, fun _ => storesCcrWord_pre hu rfl,
    fun _ => storesCcrWord_of hu rfl, fun _ => storesCcrWord_of hu rfl⟩

/-- Settles O58: SSBY chooses the state, then the next word is fetched. -/
theorem sleepCompletes : Obligations.SleepCompletes := fun s hu hf =>
  goNext_of 2 { s with proc := if s.env.ssby then .softwareStandby else .sleep } hu hf

end
end Sys2Proof.Machine
end

section
/-! ### Exception entry and RTE (O40, O41, O42) -/

namespace Sys2Proof.Machine

section
variable {s t : State} {a ret : Addr}

/-- CCR after an exception entry, from its bits (R522). -/
theorem entryCcr_eq (s : State) (ui : Bool) :
    entryCcr ui s.ccr =
      ccrOf true (s.flag .ui || ui) (s.flag .h) (s.flag .u) (s.flag .n) (s.flag .z) (s.flag .v) (s.flag .c) := by
  apply ccr_ext
  intro f
  rw [entryCcr_get, ccrGet_ccrOf]
  cases f <;> simp [State.flag]

/-! The machine an entry leaves before the vector is read, field by field. -/

@[simp] theorem State.entered_regs (s : State) (ret : Addr) :
    (s.entered ret).regs = (s.setEr .er7 (s.er .er7 - 4)).regs := by simp [State.entered]

@[simp] theorem State.entered_ccr (s : State) (ret : Addr) :
    (s.entered ret).ccr = entryCcr s.env.uiIsMask s.ccr := by simp [State.entered]

@[simp] theorem State.entered_proc (s : State) (ret : Addr) : (s.entered ret).proc = .run := by simp [State.entered]

@[simp] theorem State.entered_intInhibit (s : State) (ret : Addr) : (s.entered ret).intInhibit = s.intInhibit := by
  simp [State.entered]

@[simp] theorem State.entered_env (s : State) (ret : Addr) : (s.entered ret).env = s.env := by simp [State.entered]

@[simp] theorem State.entered_inputs (s : State) (ret : Addr) : (s.entered ret).inputs = s.inputs := by
  simp [State.entered]

@[simp] theorem State.entered_params (s : State) (ret : Addr) : (s.entered ret).params = s.params := by
  simp [State.entered]

@[simp] theorem State.entered_draws (s : State) (ret : Addr) : (s.entered ret).draws = s.draws := by
  simp [State.entered]

theorem State.readsComplete.congr (hp : t.params = s.params) (h : s.readsComplete) : t.readsComplete := fun b => by
  rw [State.canRead8, State.phys, hp]
  exact h b

/-- Taking an exception where memory can be read and takes the frame (R520). -/
theorem enters_of {vec : Nat} (hu : s.undisturbed) (hr : s.readsComplete) (hc : s.canEnter) :
    Enters (exceptionEntry s ret vec) s ret vec := by
  have hread : (s.entered ret).readsComplete := State.readsComplete.congr (s.entered_params ret) hr
  have hnext := (exceptionEntry_next s ret vec _ hu).mpr ⟨hc, hread.canReadPointer, ⟨hread _, hread _⟩, rfl⟩
  exact ⟨s.entered ret, s.free8 0, hnext, s.entered_regs ret, (s.entered_ccr ret).trans (entryCcr_eq s _),
    s.stored_entered ret, s.entered_proc ret, s.entered_intInhibit ret, s.entered_env ret, s.entered_inputs ret,
    s.entered_params ret, s.entered_draws ret⟩

/-- Settles O40: the entry begins once the next word is fetched and discarded. -/
theorem trapEntry : Obligations.TrapEntry := by
  intro s n hu hr hc
  have htrap : exec (.trapaImm2 n) s = exceptionEntry s.sawNext (s.nextPc 2) (8 + n.toNat) :=
    discardNext_of s (fun s => exceptionEntry s (s.nextPc 2) (8 + n.toNat)) hu ⟨hr _, hr _⟩
  rw [htrap]
  exact enters_of (s := s.sawNext) hu hr hc

/-- RTE where memory can be read, the next word fetched and discarded first (R460). -/
theorem rte_of (hu : s.undisturbed) (hr : s.readsComplete) :
    exec .rte s = .next (((((s.sawNext.sawRead16 (s.eaAt .er7)).sawRead16 (s.eaAt .er7 + 2)).setEr .er7
      (s.er .er7 + 4)).withCcr ((s.sawNext.read16 .data (s.eaAt .er7)).extractLsb' 8 8)).atPc
        (s.loadPc s.sawNext.exceptionReturnAddress)) :=
  (discardNext_of s _ hu ⟨hr _, hr _⟩).trans <| (exceptionReturn_next s.sawNext _ hu).mpr
    ⟨⟨hr _, hr _⟩, ⟨hr _, hr _⟩, ⟨hr _, hr _⟩, rfl⟩

/-- Settles O41: a word zero-extended is a word below a zero byte. -/
theorem returnFromException : Obligations.ReturnFromException := by
  intro s hu hr sp s1 h s2 l s3 ret
  have hret : s1.exceptionReturnAddress = ret := by
    rw [State.exceptionReturnAddress]
    show (match s.params.mode with | .normal => l.zeroExtend 24 | .advanced => h.extractLsb' 0 8 ++ l) = _
    unfold ret
    cases s.params.mode with
    | normal => exact BitVec.setWidth_eq_append (by decide)
    | advanced => rfl
  rw [rte_of hu hr, hret]
  rfl

end
end Sys2Proof.Machine
end

section
/-! ### An exception entry and its return (O42)

As for a call: what an entry leaves in RAM, then RTE reads the frame back and undoes the rest. -/

namespace Sys2Proof.Machine

/-- What an exception entry with RAM everywhere leaves of the machine `s` for RTE (R520): ER7 moved by 4, the frame of
`ret` and of the old CCR written whatever its spare byte. -/
structure State.Interrupted (s : State) (ret : Addr) (t : State) : Prop where
  regs : t.regs = (s.setEr .er7 (s.er .er7 - 4)).regs
  env : t.env = s.env
  params : t.params = s.params
  frame : ∃ y, s.Stored t (s.exceptionFrame ret y)

section
variable {s t : State} {a ret : Addr} {vec : Nat}

theorem State.sawPointer_ram (hm : s.params.map = []) : s.sawPointer a = s := by
  unfold State.sawPointer State.sawRead32
  cases s.params.mode <;> simp only [State.sawRead16_ram, hm]

theorem State.writesComplete.canEnter (h : s.writesComplete) : s.canEnter := ⟨⟨h _, h _⟩, h _, h _⟩

/-- From RAM the reads of the vector and of the handler's first word leave no trace. -/
theorem Enters.interrupted (h : Enters (.next t) s ret vec) (hm : s.params.map = []) : s.Interrupted ret t := by
  obtain ⟨u, y, e, hregs, -, hstored, -, -, henv, -, hparams, -⟩ := h
  have hmu : u.params.map = [] := hparams ▸ hm
  rw [State.sawPointer_ram hmu] at e
  obtain rfl := Host.Outcome.next.inj e
  have hlog (p : Addr) : (u.atPc p).devLog = u.devLog := (congrArg State.devLog (u.sawRead16_ram p hmu) :)
  exact ⟨hregs, henv, hparams, y, hstored.of_eq rfl rfl rfl rfl rfl rfl rfl (hlog _)⟩

/-- The two words of the frame, from SP on: CCR with the upper part of the address, and the lower part (R521). -/
theorem State.Interrupted.frameWords (h : s.Interrupted ret t) (hm : s.params.map = []) :
    ∃ x : Byte, t.read16 .data (t.eaAt .er7) = s.ccr ++ x ∧ (s.params.mode = .advanced → x = ret.extractLsb' 16 8) ∧
      t.read16 .data (t.eaAt .er7 + 2) = ret.extractLsb' 0 16 := by
  obtain ⟨y, hstored⟩ := h.frame
  have hsp : t.eaAt .er7 = low24 (s.er .er7 - 4) := by
    rw [State.eaAt, State.er, h.regs]
    exact s.eaAt_setEr_same .er7 _
  have hread {b v} (hv : .writeWord (s.phys (evenAddr b)) v ∈ s.exceptionFrame ret y) : t.read16 .data b = v :=
    hstored.read16 hm h.params hv
  rw [hsp]
  exact ⟨_, hread (List.mem_append_right _ (List.mem_singleton_self _)), fun hmode => by rw [hmode],
    hread (List.mem_append_left _ (List.mem_singleton_self _))⟩

/-- The low word of an address that normal mode can hold is all of it. -/
theorem zeroExtend_low16 (h : ret.toNat < 2 ^ 16) : (ret.extractLsb' 0 16).zeroExtend 24 = ret := by
  apply BitVec.eq_of_toNat_eq
  simp only [BitVec.truncate_eq_setWidth, BitVec.toNat_setWidth, BitVec.extractLsb'_toNat]
  omega

/-- RTE finds the address that the entry saved; in normal mode it does not look at the spare byte (R460, R471). -/
theorem State.Interrupted.returnAddress (h : s.Interrupted ret t) (hm : s.params.map = [])
    (hret : s.params.mode = .normal → ret.toNat < 2 ^ 16) : t.exceptionReturnAddress = ret := by
  obtain ⟨x, hhigh, hx, hlow⟩ := h.frameWords hm
  rw [State.exceptionReturnAddress, t.sawRead16_ram _ (h.params ▸ hm), hhigh, hlow, h.params]
  cases hmode : s.params.mode with
  | normal => exact zeroExtend_low16 (hret hmode)
  | advanced =>
    simp only [hx hmode, BitVec.extractLsb'_append_eq_right]
    exact BitVec.extractLsb'_append_extractLsb'_eq_extractLsb' rfl |>.trans BitVec.extractLsb'_eq_self

/-- An address of the mode's width is loaded into PC with bit 0 cleared (R400). -/
theorem State.loadPc_eq_evenAddr (h : s.params.mode = .normal → a.toNat < 2 ^ 16) : s.loadPc a = evenAddr a := by
  rw [State.loadPc]
  cases hmode : s.params.mode with
  | normal =>
    have hwrap : wrapPc .normal a = a :=
      BitVec.eq_of_toNat_eq ((wrapPc_normal_toNat a).trans (Nat.mod_eq_of_lt (h hmode)))
    rw [hwrap]
  | advanced => rfl

/-- RTE after an exception entry undoes what the entry did to PC, CCR and ER7 (R471). -/
theorem State.Interrupted.rte (h : s.Interrupted ret t) (hu : s.undisturbed) (hm : s.params.map = [])
    (hret : s.params.mode = .normal → ret.toNat < 2 ^ 16) :
    ∃ u, exec .rte t = .next u ∧ u.pc = evenAddr ret ∧ u.ccr = s.ccr ∧ u.regs = s.regs := by
  have hmt : t.params.map = [] := h.params ▸ hm
  have hnext : t.sawNext = t := t.sawRead16_ram _ hmt
  refine ⟨_, rte_of ((congrArg Env.slots h.env).trans hu) (State.reads_ram hmt), ?_, ?_, ?_⟩
  · rw [State.atPc_pc, hnext, h.returnAddress hm hret, State.loadPc_congr h.params, State.loadPc_eq_evenAddr hret]
  · obtain ⟨x, hhigh, -, -⟩ := h.frameWords hm
    rw [State.atPc_ccr, State.withCcr_ccr, hnext, hhigh]
    exact BitVec.extractLsb'_append_eq_left
  · have her : t.er .er7 = s.er .er7 - 4 := (congrArg (·.get .er7) h.regs).trans (s.er_setEr_same .er7 _)
    rw [hnext, State.atPc_regs, State.withCcr_regs, State.setEr_regs, State.sawRead16_regs, State.sawRead16_regs, her,
      BitVec.sub_add_cancel, h.regs, ← State.setEr_regs, State.setEr_setEr, State.setEr_er]

/-- Settles O42: RAM takes the frame, and RTE reads it back. -/
theorem entryThenReturn : Obligations.EntryThenReturn := by
  intro s t ret vec hu hm hret e
  have henters := enters_of (ret := ret) (vec := vec) hu (State.reads_ram hm) (State.writes_ram hm).canEnter
  rw [e] at henters
  exact (henters.interrupted hm).rte hu hm hret

end
end Sys2Proof.Machine
end

section
/-! ### Block transfers (O49, O50, O51)

The machine after some bytes of a block, from which both loops go on; the memory it has left, byte by byte. -/

namespace Sys2Proof.Machine

/-- What moving the first `k` bytes of a block leaves of the machine `s` (R490, R495): ER5 and ER6 moved, ER4 as given,
and where RAM is everywhere the bytes moved, nothing else. -/
structure State.Moved (s : State) (k : Nat) (er4 : Long) (t : State) : Prop where
  regs : t.regs = s.blockRegs k er4
  ccr : t.ccr = s.ccr
  pc : t.pc = s.pc
  control : s.SameControl t
  mem : s.params.map = [] → t.mem = s.blockMemory k
  devLog : s.params.map = [] → t.devLog = s.devLog

/-- The machine after the two dummy reads (R494). -/
def State.sawDummyReads (s : State) : State := (s.sawRead8 (s.eaAt .er5)).sawRead8 (s.eaAt .er6)

section
variable {s t u : State} {k n : Nat} {x : Long}

/-! The count in ER4. -/

@[simp] theorem withByteView_byteView (x : Long) : withByteView .l x (byteView .l x) = x :=
  (BitVec.extractLsb'_append_extractLsb'_eq_extractLsb' rfl).trans BitVec.extractLsb'_eq_self

@[simp] theorem withWordView_wordView (x : Long) : withWordView .r x (wordView .r x) = x :=
  (BitVec.extractLsb'_append_extractLsb'_eq_extractLsb' rfl).trans BitVec.extractLsb'_eq_self

@[simp] theorem withByteView_withByteView (x : Long) (v w : Byte) :
    withByteView .l (withByteView .l x v) w = withByteView .l x w :=
  congrArg (· ++ w) BitVec.extractLsb'_append_eq_left

@[simp] theorem withWordView_withWordView (x : Long) (v w : Word) :
    withWordView .r (withWordView .r x v) w = withWordView .r x w :=
  congrArg (· ++ w) BitVec.extractLsb'_append_eq_left

theorem ofNat_succ_sub_one (w n : Nat) : BitVec.ofNat w (n + 1) - 1 = BitVec.ofNat w n := by
  rw [BitVec.ofNat_add]
  exact BitVec.add_sub_cancel ..

theorem add_ofNat_add_one (x : Long) (k : Nat) : x + BitVec.ofNat 32 k + 1 = x + BitVec.ofNat 32 (k + 1) := by
  rw [BitVec.add_assoc, BitVec.ofNat_add]
  rfl

/-! Memory after some bytes of a block. -/

theorem State.blockMemory_succ (s : State) (n : Nat) :
    s.blockMemory (n + 1) =
      memWrite (s.blockMemory n) (s.blockTarget n) (memLookup (s.blockMemory n) (s.blockSource n)) := by
  rw [State.blockMemory, List.range_succ, List.foldl_append]
  rfl

/-- A byte that is no destination stays. -/
theorem State.blockMemory_other {p : Nat} (h : ∀ i, i < n → p ≠ s.blockTarget i) :
    memLookup (s.blockMemory n) p = memLookup s.mem p := by
  induction n with
  | zero => rfl
  | succ n ih =>
    rw [s.blockMemory_succ, memLookup_memWrite, if_neg (h n (Nat.lt_succ_self n))]
    exact ih fun i hi => h i (Nat.lt_succ_of_lt hi)

/-- The address space has a size `m` (R66): the bytes from a register on are at its value and up, modulo `m`. -/
theorem State.exists_phys_low24_add (s : State) :
    ∃ m, ∀ (x : Long) (i : Nat), s.phys (low24 (x + BitVec.ofNat 32 i)) = (x.toNat + i) % m := by
  have hmod (x : Long) (i b : Nat) (hb : b ≤ 24) :
      (low24 (x + BitVec.ofNat 32 i)).toNat % 2 ^ b = (x.toNat + i) % 2 ^ b := by
    rw [low24_toNat, Nat.mod_mod_of_dvd _ (pow_dvd_pow 2 hb), BitVec.toNat_add, BitVec.toNat_ofNat, Nat.add_mod_mod,
      Nat.mod_mod_of_dvd _ (pow_dvd_pow 2 (hb.trans (by decide)))]
  cases hmode : s.params.mode with
  | normal => exact ⟨2 ^ 16, fun x i => (phys_normal s _ hmode).trans (hmod x i 16 (by decide))⟩
  | advanced => exact ⟨_, fun x i => (phys_advanced s _ hmode).trans (hmod x i _ (Nat.sub_le ..))⟩

/-- Two bytes of a block that have one destination have one source: both blocks wrap around at the same length. -/
theorem State.blockSource_eq_of_blockTarget_eq {i j : Nat} (h : s.blockTarget i = s.blockTarget j) :
    s.blockSource i = s.blockSource j := by
  obtain ⟨m, hphys⟩ := s.exists_phys_low24_add
  rw [State.blockTarget, State.blockTarget, hphys, hphys] at h
  rw [State.blockSource, State.blockSource, hphys, hphys]
  exact (Nat.ModEq.add_left_cancel' _ h).add_left _

/-- Blocks that do not overlap: each destination byte is the source byte (R496). -/
theorem State.blockMemory_copy (h : BlockApart s n) {i : Nat} (hi : i < n) :
    memLookup (s.blockMemory n) (s.blockTarget i) = memLookup s.mem (s.blockSource i) := by
  induction n with
  | zero => exact absurd hi (Nat.not_lt_zero i)
  | succ n ih =>
    rw [s.blockMemory_succ, memLookup_memWrite]
    split
    next heq =>
      rw [State.blockSource_eq_of_blockTarget_eq heq]
      exact State.blockMemory_other fun j hj => h n j (Nat.lt_succ_self n) (Nat.lt_succ_of_lt hj)
    next hne =>
      have hin : i ≠ n := fun e => hne (congrArg s.blockTarget e)
      exact ih (fun a b ha hb => h a b (Nat.lt_succ_of_lt ha) (Nat.lt_succ_of_lt hb)) (by omega)

theorem State.blockTarget_of_above (h : s.er .er6 = s.er .er5 + 1) (i : Nat) :
    s.blockTarget i = s.blockSource (i + 1) := by
  rw [State.blockTarget, State.blockSource, h, add_right_comm, add_ofNat_add_one]

/-- A destination one byte above the source: every byte moved so far, and the one to be moved next, is the first byte
(R495). -/
theorem State.blockMemory_fill (h : s.er .er6 = s.er .er5 + 1) (n : Nat) {i : Nat} (hi : i ≤ n) :
    memLookup (s.blockMemory n) (s.blockSource i) = memLookup s.mem (s.blockSource 0) := by
  induction n generalizing i with
  | zero => rw [Nat.le_zero.mp hi]; rfl
  | succ n ih =>
    rw [s.blockMemory_succ, memLookup_memWrite, State.blockTarget_of_above h]
    split
    next => exact ih (le_refl n)
    next hne =>
      have hin : i ≠ n + 1 := fun e => hne (congrArg s.blockSource e)
      exact ih (by omega)

/-! Moving bytes. -/

theorem State.Moved.er4 (h : s.Moved k x t) : t.er .er4 = x := congrArg RegFile.er4 h.regs

/-- One more byte, and the count written. -/
theorem State.Moved.transferred (h : s.Moved k x t) (y : Long) : s.Moved (k + 1) y (t.transferred.setEr .er4 y) := by
  have h5 : t.er .er5 = s.er .er5 + BitVec.ofNat 32 k := congrArg RegFile.er5 h.regs
  have h6 : t.er .er6 = s.er .er6 + BitVec.ofNat 32 k := congrArg RegFile.er6 h.regs
  have hphys : t.phys = s.phys := congrArg physOf h.control.params
  refine ⟨?_, h.ccr, h.pc, ⟨h.control.intInhibit, h.control.proc, h.control.env, h.control.inputs, h.control.params,
    h.control.draws⟩, fun hm => ?_, fun hm => ?_⟩
  · show ((t.regs.set .er5 (t.er .er5 + 1)).set .er6 (t.er .er6 + 1)).set .er4 y = _
    rw [h.regs, h5, h6, add_ofNat_add_one, add_ofNat_add_one]
    rfl
  · have hmt : t.params.map = [] := h.control.params ▸ hm
    show ((t.sawRead8 _).write8 _ _).mem = _
    rw [State.write8_mem, State.sawRead8_params, hmt, ramWrite_nil, State.read8_ram hmt, State.sawRead8_mem,
      State.sawRead8_phys, h.mem hm, State.eaAt, State.eaAt, h5, h6, hphys, s.blockMemory_succ]
    rfl
  · have hmt : t.params.map = [] := h.control.params ▸ hm
    show ((t.sawRead8 _).write8 _ _).devLog = _
    rw [State.write8_devLog, State.sawRead8_params, hmt, concernsDevice_nil, t.sawRead8_ram _ hmt, h.devLog hm]
    exact List.append_nil _

theorem State.Moved.transferredB (h : s.Moved k (withByteView .l x (BitVec.ofNat 8 (n + 1))) t) :
    s.Moved (k + 1) (withByteView .l x (BitVec.ofNat 8 n))
      (t.transferred.setReg8 r4l (t.transferred.reg8 r4l - 1)) := by
  have h4 : t.transferred.er .er4 = _ := h.er4
  rw [State.setReg8, State.reg8, h4, byteView_withByteView, ofNat_succ_sub_one, withByteView_withByteView]
  exact h.transferred _

theorem State.Moved.transferredW (h : s.Moved k (withWordView .r x (BitVec.ofNat 16 (n + 1))) t) :
    s.Moved (k + 1) (withWordView .r x (BitVec.ofNat 16 n))
      (t.transferred.setReg16 r4 (t.transferred.reg16 r4 - 1)) := by
  have h4 : t.transferred.er .er4 = _ := h.er4
  rw [State.setReg16, State.reg16, h4, wordView_withWordView, ofNat_succ_sub_one, withWordView_withWordView]
  exact h.transferred _

/-- The dummy reads move nothing. -/
theorem State.moved_dummyReads (h : x = s.er .er4) : s.Moved 0 x s.sawDummyReads := by
  subst h
  refine ⟨?_, rfl, rfl, ⟨rfl, rfl, rfl, rfl, rfl, rfl⟩, fun _ => rfl, fun hm => ?_⟩
  · rw [State.blockRegs, BitVec.add_zero, BitVec.add_zero]
    rfl
  · rw [State.sawDummyReads, s.sawRead8_ram _ hm, s.sawRead8_ram _ hm]

end

section
variable {s t u : State} {k n : Nat} {x : Long} (hu : s.undisturbed) (hr : s.readsComplete) (hw : s.writesComplete)
include hu hr

/-- The fetch that ends a transfer, with the inputs as they were or with an NMI noted in them. -/
theorem State.Moved.goNext_of {e : Env} (h : s.Moved k x u) (he : e.slots = s.env.slots) :
    goNext 4 { u with env := e } = .next ({ u with env := e }.past 4) :=
  Machine.goNext_of 4 { u with env := e } (he.trans hu) <| by
    have hru := State.readsComplete.congr h.control.params hr
    exact ⟨hru _, hru _⟩

include hw

theorem State.Moved.transferByte_of (h : s.Moved k x t) (f : State → Result) :
    transferByte t f = f t.transferred := by
  have hwt : t.canWrite8 (t.eaAt .er6) := by
    rw [State.canWrite8, State.phys, h.control.params]
    exact hw _
  exact Machine.transferByte_of t f ((congrArg Env.slots h.control.env).trans hu)
    (State.readsComplete.congr h.control.params hr _) hwt

/-- EEPMOV.B from `k` bytes on: it moves the `n` that are left (R490). -/
theorem eepmovLoopB_of (h : s.Moved k (withByteView .l x (BitVec.ofNat 8 n)) t) :
    ∃ u, s.Moved (k + n) (withByteView .l x 0) u ∧ eepmovLoopB n t = goNext 4 u := by
  induction n generalizing k t with
  | zero => exact ⟨t, h, rfl⟩
  | succ n ih =>
    rw [eepmovLoopB, h.transferByte_of hu hr hw, ← Nat.succ_add_eq_add_succ]
    exact ih h.transferredB

/-- EEPMOV.W moves a byte and ends there if an NMI is requested and bytes are left (R491). -/
theorem eepmovLoopW_succ (h : s.Moved k (withWordView .r x (BitVec.ofNat 16 (n + 1))) t) (hn : n < 2 ^ 16) :
    ∃ u, s.Moved (k + 1) (withWordView .r x (BitVec.ofNat 16 n)) u ∧
      eepmovLoopW (n + 1) k t =
        if s.env.nmiAfter (k + 1) = true ∧ n ≠ 0 then goNext 4 { u with env := s.env.rememberNmi }
        else eepmovLoopW n (k + 1) u := by
  have hmoved := h.transferredW
  have hcount : (t.transferred.setReg16 r4 (t.transferred.reg16 r4 - 1)).reg16 r4 = BitVec.ofNat 16 n :=
    (congrArg (wordView .r) hmoved.er4).trans (wordView_withWordView ..)
  have hzero : BitVec.ofNat 16 n ≠ 0 ↔ n ≠ 0 := by
    rw [Ne, BitVec.ofNat_eq_ofNat, bitVec_zero_iff, BitVec.toNat_ofNat, Nat.mod_eq_of_lt hn]
  refine ⟨_, hmoved, ?_⟩
  rw [eepmovLoopW, h.transferByte_of hu hr hw]
  simp only [hcount, hzero, hmoved.control.env]

/-- EEPMOV.W from `k` bytes on: it moves `m` more where no NMI ends it before, and these are all or an NMI ends it
there (R491). -/
theorem eepmovLoopW_of (m : Nat) (h : s.Moved k (withWordView .r x (BitVec.ofNat 16 n)) t) (hn : n < 2 ^ 16)
    (hm : m ≤ n) (hquiet : ∀ d, k < d → d < k + m → s.env.nmiAfter d = false)
    (hstop : m = n ∨ s.env.nmiAfter (k + m) = true ∧ 0 < m) :
    ∃ u, s.Moved (k + m) (withWordView .r x (BitVec.ofNat 16 (n - m))) u ∧
      eepmovLoopW n k t = goNext 4 { u with env := if m < n then s.env.rememberNmi else s.env } := by
  induction n generalizing k m t with
  | zero =>
    obtain rfl : m = 0 := by omega
    refine ⟨t, h, ?_⟩
    rw [if_neg (by decide), ← h.control.env]
    rfl
  | succ n ih =>
    obtain ⟨m, rfl⟩ : ∃ m', m = m' + 1 := ⟨m - 1, by omega⟩
    obtain ⟨u, hmoved, e⟩ := eepmovLoopW_succ hu hr hw h (by omega)
    rw [e]
    by_cases hcut : m = 0 ∧ n ≠ 0
    · obtain ⟨rfl, hne⟩ := hcut
      have hnmi : s.env.nmiAfter (k + 1) = true := (hstop.resolve_left (by omega)).1
      rw [if_pos ⟨hnmi, hne⟩, if_pos (by omega)]
      exact ⟨u, hmoved, rfl⟩
    · have hon : ¬ (s.env.nmiAfter (k + 1) = true ∧ n ≠ 0) := fun ⟨hnmi, hne⟩ =>
        ne_true_of_eq_false (hquiet (k + 1) (by omega) (by omega)) hnmi
      have hassoc : k + (m + 1) = k + 1 + m := by omega
      rw [if_neg hon, Nat.add_sub_add_right, hassoc]
      rw [hassoc] at hquiet hstop
      simp only [Nat.add_lt_add_iff_right]
      refine ih m hmoved (by omega) (by omega) (fun d h1 h2 => hquiet d (by omega) h2) ?_
      by_cases hall : m = n
      · exact .inl hall
      · exact .inr ⟨(hstop.resolve_left (by omega)).1, by omega⟩

/-! The two instructions: dummy reads, then the loop. -/

omit hw in
theorem exec_eepmovB_eq : exec .eepmovB s = eepmovLoopB (s.reg8 r4l).toNat s.sawDummyReads :=
  dummyReads_of s _ hu (hr _) (hr _)

omit hw in
theorem exec_eepmovW_eq : exec .eepmovW s = eepmovLoopW (s.reg16 r4).toNat 0 s.sawDummyReads :=
  dummyReads_of s _ hu (hr _) (hr _)

theorem exec_eepmovB_of : ∃ u, s.Moved (s.reg8 r4l).toNat (withByteView .l (s.er .er4) 0) u ∧
    exec .eepmovB s = goNext 4 u := by
  have hcount : withByteView .l (s.er .er4) (BitVec.ofNat 8 (s.reg8 r4l).toNat) = s.er .er4 := by
    rw [BitVec.ofNat_toNat, BitVec.setWidth_eq]
    exact withByteView_byteView _
  have hloop := eepmovLoopB_of hu hr hw (State.moved_dummyReads hcount)
  rw [Nat.zero_add] at hloop
  rw [exec_eepmovB_eq hu hr]
  exact hloop

theorem exec_eepmovW_of (m : Nat) (hm : m ≤ (s.reg16 r4).toNat)
    (hquiet : ∀ d, 0 < d → d < m → s.env.nmiAfter d = false)
    (hstop : m = (s.reg16 r4).toNat ∨ s.env.nmiAfter m = true ∧ 0 < m) :
    ∃ u, s.Moved m (withWordView .r (s.er .er4) (BitVec.ofNat 16 ((s.reg16 r4).toNat - m))) u ∧
      exec .eepmovW s =
        goNext 4 { u with env := if m < (s.reg16 r4).toNat then s.env.rememberNmi else s.env } := by
  have hcount : withWordView .r (s.er .er4) (BitVec.ofNat 16 (s.reg16 r4).toNat) = s.er .er4 := by
    rw [BitVec.ofNat_toNat, BitVec.setWidth_eq]
    exact withWordView_wordView _
  have hloop := eepmovLoopW_of hu hr hw m (State.moved_dummyReads hcount) (s.reg16 r4).isLt hm
  rw [Nat.zero_add] at hloop
  rw [exec_eepmovW_eq hu hr]
  exact hloop hquiet hstop

/-- Where no NMI is pending or arrives the whole block is moved. -/
theorem exec_eepmovW_quiet (hnmi : s.env.nmi = none) (hduring : s.env.nmiDuring = none) :
    ∃ u, s.Moved (s.reg16 r4).toNat (withWordView .r (s.er .er4) 0) u ∧ exec .eepmovW s = goNext 4 u := by
  have hquiet (d : Nat) : s.env.nmiAfter d = false := by rw [Env.nmiAfter, hnmi, hduring]; rfl
  obtain ⟨u, hmoved, e⟩ := exec_eepmovW_of hu hr hw _ (le_refl _) (fun d _ _ => hquiet d) (.inl rfl)
  rw [Nat.sub_self] at hmoved
  rw [if_neg (lt_irrefl _), ← hmoved.control.env] at e
  exact ⟨u, hmoved, e⟩

end

/-! The obligations. -/

section
variable {s u : State} {k : Nat} {x : Long} {e : Env}

theorem State.Moved.nextPc (h : s.Moved k x u) (len : Addr) : u.nextPc len = s.nextPc len := by
  rw [State.nextPc, State.nextPc, h.pc, h.control.params]

/-- Once the next word is fetched, everything but the inputs is as the bytes moved leave it. -/
theorem State.Moved.sameControl_past (h : s.Moved k x u) :
    { s with env := e }.SameControl ({ u with env := e }.past 4) :=
  ⟨h.control.intInhibit, h.control.proc, rfl, h.control.inputs, h.control.params, h.control.draws⟩

/-- The transfer ended without an NMI. -/
theorem State.Moved.completes (h : s.Moved k x u) (hu : s.undisturbed) (hr : s.readsComplete) :
    ∃ t, goNext 4 u = .next t ∧ t.pc = s.nextPc 4 ∧ t.ccr = s.ccr ∧ s.SameControl t ∧
      t.regs = s.blockRegs k x :=
  ⟨_, h.goNext_of hu hr (congrArg Env.slots h.control.env), h.nextPc 4, h.ccr, h.control.env ▸ h.sameControl_past,
    h.regs⟩

/-- In RAM the fetch leaves no trace (R496). -/
theorem State.Moved.blockCopied (h : s.Moved k x u) (hu : s.undisturbed) (hm : s.params.map = []) :
    BlockCopied (goNext 4 u) s k x := by
  have hmu : u.params.map = [] := h.control.params ▸ hm
  refine ⟨_, h.goNext_of hu (State.reads_ram hm) (congrArg Env.slots h.control.env), h.regs, h.ccr, h.nextPc 4, ?_,
    h.control.env ▸ h.sameControl_past, ?_, h.mem hm, fun hapart i hi => ?_, fun p hp => ?_⟩
  · rw [← h.nextPc 4]
    exact (u.read16_ram hmu .prefetch _).trans (State.read16_ram (s := u.past 4) hmu .prefetch _).symm
  · exact (congrArg State.devLog (u.sawRead16_ram _ hmu)).trans (h.devLog hm)
  · exact (congrArg (memLookup · _) (h.mem hm)).trans (State.blockMemory_copy hapart hi)
  · exact (congrArg (memLookup · _) (h.mem hm)).trans (State.blockMemory_other hp)

theorem Env.nmiAfter_pending (h : e.nmi.isSome = true) (d : Nat) : e.nmiAfter d = true := by
  rw [Env.nmiAfter, h, Bool.true_or]

theorem Env.nmiAfter_arriving {a : NmiArrival} (h : e.nmi = none) (ha : e.nmiDuring = some a) (d : Nat) :
    e.nmiAfter d = decide (a.afterBytes ≤ d) := by
  rw [Env.nmiAfter, h, ha]
  rfl

theorem Env.rememberNmi_of_none (h : e.nmi = none) : e.rememberNmi = e := by rw [Env.rememberNmi, h]

/-- An NMI that was noted, or that arrived, is pending at the next sample. -/
theorem Env.rememberNmi_nmiDuring (h : e.nmi.isSome = true ∨ e.nmiDuring.isSome = true) :
    e.rememberNmi.nmiDuring.isSome = true := by
  unfold Env.rememberNmi
  cases hnmi : e.nmi with
  | some v => rfl
  | none => rw [hnmi] at h; exact h.resolve_left nofun

theorem Env.after_nmi_isSome (new : Env) (h : e.nmiDuring.isSome = true) : (e.after new).nmi.isSome = true := by
  unfold Env.after
  cases new.nmi with
  | some v => rfl
  | none => rwa [Option.isSome_map]

theorem State.sample_nmi_isSome (h : s.env.nmiDuring.isSome = true) : s.sample.env.nmi.isSome = true := by
  unfold State.sample
  cases s.inputs with
  | nil => exact Env.after_nmi_isSome _ h
  | cons new rest => exact Env.after_nmi_isSome new h

end

/-- Settles O50: the dummy reads, the bytes moved one by one, the fetch. -/
theorem blockTransferRegisters : Obligations.BlockTransferRegisters := by
  intro s hu hr hw
  refine ⟨?_, fun hnmi hduring => ?_, fun h0 => ?_, fun h0 => ?_⟩
  · obtain ⟨u, hmoved, e⟩ := exec_eepmovB_of hu hr hw
    exact e ▸ hmoved.completes hu hr
  · obtain ⟨u, hmoved, e⟩ := exec_eepmovW_quiet hu hr hw hnmi hduring
    exact e ▸ hmoved.completes hu hr
  · rw [exec_eepmovB_eq hu hr, h0]
    exact goNext_of 4 s.sawDummyReads hu ⟨hr _, hr _⟩
  · rw [exec_eepmovW_eq hu hr, h0]
    exact goNext_of 4 s.sawDummyReads hu ⟨hr _, hr _⟩

/-- Settles O49: in RAM each byte moved is a step of `blockMemory`; a copy and a fill are what it gives on blocks apart
and on a destination one byte above the source. -/
theorem blockTransferBytes : Obligations.BlockTransferBytes := by
  intro s hu hm n
  have hr := State.reads_ram hm
  have hw := State.writes_ram hm
  obtain ⟨u, hmoved, e⟩ := exec_eepmovB_of hu hr hw
  have hcopied := hmoved.blockCopied hu hm
  rw [e]
  refine ⟨hcopied, fun hnmi hduring => ?_, fun habove => ?_⟩
  · obtain ⟨v, hmovedW, eW⟩ := exec_eepmovW_quiet hu hr hw hnmi hduring
    exact eW ▸ hmovedW.blockCopied hu hm
  · obtain ⟨t, ht, -, -, -, -, -, -, hmem, -, -⟩ := hcopied
    refine ⟨t, ht, fun i hi => ?_⟩
    rw [hmem, State.blockTarget_of_above habove]
    exact State.blockMemory_fill habove n hi

/-- Settles O51: the number of bytes is the first at which an NMI is requested, or all of them. -/
theorem blockTransferCutByNmi : Obligations.BlockTransferCutByNmi := by
  intro s done hu hr hw n hcut
  have hnoted : s.env.rememberNmi.nmiDuring.isSome = true := Env.rememberNmi_nmiDuring <| by
    obtain ⟨hnmi, -⟩ | ⟨-, a, ha, -⟩ := hcut
    · exact .inl hnmi
    · exact .inr (ha ▸ rfl)
  have hdone : done ≤ n := by omega
  have hquiet : ∀ d, 0 < d → d < done → s.env.nmiAfter d = false := by
    intro d h0 hd
    obtain ⟨-, rfl⟩ | ⟨hnmi, a, ha, rfl⟩ := hcut
    · omega
    · rw [Env.nmiAfter_arriving hnmi ha]
      exact decide_eq_false (by omega)
  have hstop : done = n ∨ s.env.nmiAfter done = true ∧ 0 < done := by
    obtain ⟨hnmi, rfl⟩ | ⟨hnmi, a, ha, rfl⟩ := hcut
    · exact (Nat.eq_zero_or_pos n).imp (by omega) fun hn => ⟨Env.nmiAfter_pending hnmi _, by omega⟩
    · by_cases hall : min (max a.afterBytes 1) n = n
      · exact .inl hall
      · rw [Env.nmiAfter_arriving hnmi ha]
        exact .inr ⟨decide_eq_true (by omega), by omega⟩
  obtain ⟨u, hmoved, e⟩ := exec_eepmovW_of hu hr hw done hdone hquiet hstop
  have hslots : (if done < n then s.env.rememberNmi else s.env).slots = s.env.slots := by
    split
    · exact Env.rememberNmi_slots _
    · rfl
  refine ⟨_, e.trans (hmoved.goNext_of hu hr hslots), hmoved.nextPc 4, hmoved.ccr, hmoved.regs,
    hmoved.sameControl_past, fun hnmi => ?_, hmoved.mem, fun hlt => ?_⟩
  · exact (congrArg (ite _ · _) (Env.rememberNmi_of_none hnmi)).trans (ite_self _)
  · refine State.sample_nmi_isSome ?_
    show (if done < n then s.env.rememberNmi else s.env).nmiDuring.isSome = true
    rw [if_pos hlt]
    exact hnoted

end Sys2Proof.Machine
end

section
/-! ### Requests, and when one is masked (O43, O44, O45) -/

namespace Sys2Proof.Machine

section
variable {s : State} {r : Irq} {vec : Nat} {env : Env}

theorem State.masked_of_ui_user (h : s.env.uiIsMask = false) (r : Irq) : s.masked r = s.flag .i := by
  rw [State.masked, if_neg (by rw [h]; decide)]

/-- The row of the table is for this source and these two bits (R511). -/
def State.selects (s : State) (r : Irq) (row : UiMaskRow) : Bool :=
  decide (row.src = r.src) && (row.i == s.flag .i) && (row.ui == s.flag .ui)

theorem State.masked_of_ui_mask (h : s.env.uiIsMask = true) (r : Irq) :
    s.masked r = ((s.params.uiMask.find? (s.selects r)).map (·.masked)).getD (s.flag .i) := by
  rw [State.masked, if_pos h]
  show (match s.params.uiMask.find? (s.selects r) with | some row => row.masked | none => s.flag .i) = _
  cases s.params.uiMask.find? (s.selects r) <;> rfl

theorem State.selects_iff (s : State) (r : Irq) (row : UiMaskRow) :
    s.selects r row = true ↔ row.src = r.src ∧ row.i = s.flag .i ∧ row.ui = s.flag .ui := by
  simp [State.selects, and_assoc]

theorem State.find_selects_eq_none {rows : List UiMaskRow}
    (h : ∀ x ∈ rows, x.src ≠ r.src ∨ x.i ≠ s.flag .i ∨ x.ui ≠ s.flag .ui) : rows.find? (s.selects r) = none :=
  List.find?_eq_none.mpr fun x hx => by
    rw [s.selects_iff, not_and_or, not_and_or]
    exact h x hx

theorem acceptedRequest_of_nmi (h : s.env.nmi = some vec) :
    s.acceptedRequest = some (vec, { s.env with nmi := none }) := by
  rw [State.acceptedRequest, h]

theorem acceptedRequest_of_irq (hn : s.env.nmi = none) (h : s.env.irq = some r) (hm : s.masked r = false) :
    s.acceptedRequest = some (r.vector, { s.env with irq := none }) := by
  rw [State.acceptedRequest, hn, h]
  exact if_neg (by rw [hm]; decide)

theorem acceptedRequest_eq_none (hn : s.env.nmi = none) (h : ∀ r, s.env.irq = some r → s.masked r = true) :
    s.acceptedRequest = none := by
  rw [State.acceptedRequest, hn]
  cases hr : s.env.irq with
  | none => rfl
  | some r => exact if_pos (h r hr)

/-- Settles O45: `find?` gives the first row for the source and the two bits. -/
theorem interruptMasking : Obligations.InterruptMasking := by
  refine ⟨fun s r h => s.masked_of_ui_user h r, fun s r before after row h hrows hbefore hsrc hi hui => ?_,
    fun s r hrows => ?_, fun s => acceptedRequest_eq_none⟩
  · rw [State.masked_of_ui_mask h, hrows, List.find?_append, State.find_selects_eq_none hbefore,
      List.find?_cons_of_pos ((s.selects_iff r row).mpr ⟨hsrc, hi, hui⟩)]
    rfl
  · cases h : s.env.uiIsMask with
    | false => exact State.masked_of_ui_user h r
    | true =>
      rw [State.masked_of_ui_mask h, State.find_selects_eq_none hrows]
      rfl

/-! A step that takes an exception. -/

/-- In sleep and software standby: the entry alone (R524). -/
theorem lowPowerStep_enters (h : s.acceptedRequest = some (vec, env)) (hu : s.undisturbed)
    (hslots : env.slots = s.env.slots) (hr : s.readsComplete) (hc : s.canEnter) :
    Enters (lowPowerStep s) { s with env := env } s.pc vec := by
  rw [lowPowerStep, h]
  exact enters_of (s := { s with env := env }) (hslots.trans hu) hr hc

theorem lowPowerStep_of_none (h : s.acceptedRequest = none) : lowPowerStep s = .next s := by
  rw [lowPowerStep, h]

/-- In program execution the next word is fetched and discarded before the entry (R524). -/
theorem runStep_enters (hi : s.intInhibit = false) (h : s.acceptedRequest = some (vec, env)) (hu : s.undisturbed)
    (hslots : env.slots = s.env.slots) (hr : s.readsComplete) (hc : s.canEnter) :
    Enters (runStep s) (State.sawNext { s with env := env }) s.pc vec := by
  have hquiet : State.undisturbed { s with env := env } := hslots.trans hu
  rw [runStep, if_neg (by rw [hi]; decide), h]
  show Enters (discardNext { s with env := env } fun s => exceptionEntry s s.pc vec) _ _ _
  rw [discardNext_of _ _ hquiet ⟨hr _, hr _⟩]
  exact enters_of (s := State.sawNext { s with env := env }) hquiet hr hc

theorem stateStep_lowPower (hp : s.proc = .sleep ∨ s.proc = .softwareStandby) : stateStep s = lowPowerStep s := by
  obtain hp | hp := hp <;> rw [stateStep, hp]

theorem stateStep_run (hp : s.proc = .run) (hb : s.env.busRequest = false) : stateStep s = runStep s := by
  rw [stateStep, hp]
  exact if_neg (by rw [hb]; decide)

theorem State.sample_readsComplete (h : s.readsComplete) : s.sample.readsComplete := by
  rw [s.sample_keeps]
  exact h

theorem State.sample_canEnter (h : s.canEnter) : s.sample.canEnter := by
  rw [s.sample_keeps]
  exact h

theorem State.sample_pc (s : State) : s.sample.pc = s.pc := by rw [s.sample_keeps]

/-- Settles O43: in these states a step is `lowPowerStep` of the inputs sampled. -/
theorem sleepAndWake : Obligations.SleepAndWake := by
  intro s hp hu hstby hres
  have hstep : step s = lowPowerStep s.sample :=
    (step_of_no_pin hstby hres (by obtain hp | hp := hp <;> rw [hp] <;> decide)).trans
      (stateStep_lowPower (by rwa [s.sample_proc]))
  rw [hstep, ← s.sample_pc]
  refine ⟨fun hr hc => ⟨fun v hv => ?_, fun r hn hi hm => ?_⟩, fun r hn hi hm => ?_, fun hn hi => ?_⟩
  · exact lowPowerStep_enters (acceptedRequest_of_nmi hv) hu rfl (State.sample_readsComplete hr)
      (State.sample_canEnter hc)
  · exact lowPowerStep_enters (acceptedRequest_of_irq hn hi hm) hu rfl (State.sample_readsComplete hr)
      (State.sample_canEnter hc)
  · exact lowPowerStep_of_none (acceptedRequest_eq_none hn fun q hq => Option.some.inj (hi.symm.trans hq) ▸ hm)
  · exact lowPowerStep_of_none (acceptedRequest_eq_none hn fun q hq => nomatch hi.symm.trans hq)

/-- Settles O44: in program execution a step that no pin, no bus request and no inhibit stops is the detection point. -/
theorem interruptAcceptance : Obligations.InterruptAcceptance := by
  intro s hp hi hu hstby hres hbus hr hc
  have hstep : step s = runStep s.sample :=
    (step_of_no_pin hstby hres (by rw [hp]; decide)).trans (stateStep_run (s.sample_proc.trans hp) hbus)
  have hinhibit := s.sample_intInhibit.trans hi
  rw [hstep, ← s.sample_pc]
  refine ⟨fun v hv => ?_, fun r hn hirq hm => ?_⟩
  · exact runStep_enters hinhibit (acceptedRequest_of_nmi hv) hu rfl (State.sample_readsComplete hr)
      (State.sample_canEnter hc)
  · exact runStep_enters hinhibit (acceptedRequest_of_irq hn hirq hm) hu rfl (State.sample_readsComplete hr)
      (State.sample_canEnter hc)

end
end Sys2Proof.Machine
end

section
/-! ### The instruction after an inhibited detection point (O47) -/

namespace Sys2Proof.Machine

section
variable {s t : State} {i : Instr}

/-- Where the words of a code were fetched and executed to a next state, those the digits count to it could be read. -/
theorem executeFrom_canRead {left : Nat} {got : List Word} (hu : s.undisturbed) (hg : got ≠ [])
    (e : executeFrom left got s = .next t) (k : Nat) (hk : k < left)
    (hc : 2 * (got.length + k) < codeLength ((got ++ s.wordsAhead (2 * got.length) left).flatMap nibs16)) :
    s.canRead16 (s.nextPc (BitVec.ofNat 24 (2 * (got.length + k)))) := by
  induction left generalizing got s k with
  | zero => exact absurd hk (Nat.not_lt_zero k)
  | succ left ih =>
    have hmore : 2 * got.length < codeLength (got.flatMap nibs16) := by
      obtain h | ⟨h1, h4, -⟩ := codeLength_words got (s.wordsAhead (2 * got.length) (left + 1)) hg
      · omega
      · omega
    rw [executeFrom, if_pos hmore] at e
    obtain ⟨hread, e⟩ := (readWord_next _ _ _ _ _ hu).mp e
    cases k with
    | zero => exact hread
    | succ k =>
      rw [State.wordsAhead_succ, List.append_cons] at hc
      have hrest := ih (s := s.sawRead16 _) hu (by simp) e k (by omega)
      rw [List.length_append, List.length_singleton, Nat.add_right_comm, Nat.add_assoc] at hrest
      exact hrest (by rw [Nat.mul_succ]; exact hc)

/-- An instruction that completes is the one at PC, after the fetch of its own words and no others. -/
theorem executeInstruction_of_next (hu : s.undisturbed) (hd : decode s.instructionWords = some i)
    (e : executeInstruction s = .next t) : exec i (s.sawWords 2 (i.length / 2 - 1)) = .next t := by
  obtain ⟨-, tail, ht⟩ := exists_of_decode hd
  obtain ⟨n, hn, hl⟩ := i.length_eq
  have hc : codeLength (s.instructionWords.flatMap nibs16) = i.length := by
    rw [ht, List.flatMap_append, flatMap_encode, codeLength_encodeNibs]
  rw [← executeInstruction_of hu hd fun k hk => ?_]
  · exact e
  · have h := executeFrom_canRead hu (by simp) e k (by omega)
    rw [List.length_singleton, Nat.add_comm 1 k] at h
    exact h (lt_of_lt_of_eq (by omega) hc.symm)

/-- Settles O47: the step runs an instruction by `RunsNext.step_next`, and what it leaves of the inhibit is O46. -/
theorem noInterruptAfterInhibit : Obligations.NoInterruptAfterInhibit := by
  intro s t i hruns _ hd e
  have hwords := (s.sample.instructionWords_withInhibit false).symm ▸ hd
  have hexec := executeInstruction_of_next (s := { s.sample with intInhibit := false }) hruns.undisturbed hwords
    (hruns.step_next e)
  rw [State.sawWords_withInhibit] at hexec
  obtain ⟨-, -, -, -, hinhibit⟩ := inhibitBit
  exact ⟨hexec, hinhibit s t i hruns hd e⟩

end
end Sys2Proof.Machine
end

section
/-! ### The pins as a step begins (O52) -/

namespace Sys2Proof.Machine

section
variable {s : State}

theorem step_of_stby (h : s.sample.env.stbyLow = true) : step s = .next { s.sample with proc := .hardwareStandby } := by
  rw [step, machineStep, pinStep, if_pos h]

theorem step_of_hardwareStandby (h : s.sample.env.stbyLow = false) (hp : s.proc = .hardwareStandby) :
    step s = .next (leaveHardwareStandby s.sample) := by
  rw [step, machineStep, pinStep, if_neg (by rw [h]; decide), if_pos (s.sample_proc.trans hp)]

theorem step_of_res (h : s.sample.env.stbyLow = false) (hr : s.sample.env.resLow = true)
    (hp : s.proc ≠ .hardwareStandby) : step s = .next (enterReset s.sample) := by
  rw [step, machineStep, pinStep, if_neg (by rw [h]; decide), if_neg (by rwa [s.sample_proc]), if_pos hr]

theorem enterReset_flag (s : State) {f : Flag} (hf : f ≠ .i) : (enterReset s).flag f = s.flag f := by
  simp [enterReset, State.flag, hf]

/-- Settles O52: STBY is looked at first, hardware standby next, then RES; sampling the inputs changes nothing of the
CPU. -/
theorem resetPins : Obligations.ResetPins := by
  intro s
  refine ⟨step_of_stby, fun hs hr hp => ?_, fun hs hp => ?_⟩
  · refine ⟨_, step_of_res hs hr hp, rfl, enterReset_flag_i _, ?_⟩
    rw [s.sample_keeps]
    exact ⟨rfl, rfl, rfl, fun f hf => enterReset_flag _ hf⟩
  · refine ⟨_, step_of_hardwareStandby hs hp, rfl, leaveHardwareStandby_flag_i _, ?_⟩
    rw [s.sample_keeps]
    rfl

end
end Sys2Proof.Machine
end

section
/-! ### RES or STBY Low between bus accesses (O60)

Whatever a step does makes a bus access before it changes memory or the inputs; so a pin that goes Low before its first
access leaves memory as the other masters have it. -/

namespace Sys2Proof.Machine

/-- The machine put by a pin that goes Low into the reset state or hardware standby (60_exceptions R553, R555). -/
def State.leftBy (s : State) : Cut → State
  | .res => enterReset { s with env := { s.env with resLow := true } }
  | .stby => { s with proc := .hardwareStandby, env := { s.env with stbyLow := true } }

/-- The sequence `r` from `s` is abandoned before its first access: other masters make the accesses `es`, then the pin
is Low. -/
def State.CutFirst (s : State) (es : List Config.BusAccess) (cut : Cut) (r : Result) : Prop :=
  ∃ u : State, r = .next ((u.otherMasters es).leftBy cut) ∧ u.mem = s.mem ∧ u.params = s.params

section
variable {s : State} {es : List Config.BusAccess} {cut : Cut} {rest : List BusSlot} {len : Addr}

theorem abandoned_of_cutFirst (f : State → Result) (hs : s.env.slots = ⟨es, some cut⟩ :: rest)
    (h : s.CutFirst es cut (f (s.withSlots (⟨es, some cut⟩ :: rest)))) :
    Abandoned (f s) cut (s.otherMasters es).mem := by
  rw [show s.withSlots (⟨es, some cut⟩ :: rest) = s from hs ▸ rfl] at h
  obtain ⟨u, e, hm, hp⟩ := h
  have hmem := State.otherMasters_mem_congr u s es hm hp
  cases cut
  · exact ⟨_, e, hmem, rfl, enterReset_flag_i _, rfl⟩
  · exact ⟨_, e, hmem, rfl, rfl⟩

/-- Where a draw decides between two sequences, the one and the other are abandoned. -/
theorem State.CutFirst.drawn {b : Bool} {x y : Result} (hx : s.CutFirst es cut x) (hy : s.CutFirst es cut y) :
    s.CutFirst es cut (drawn b x y) := by
  rw [drawn_eq]
  split
  · exact hx
  · exact hy

/-! The instructions, entries and reset handling, with such a slot before the first access. Once what is decided earlier
is split, the model evaluates to what the pin leaves, which is the machine `u` of `CutFirst`. -/

theorem daa8_cutFirst (rd : R8) : s.CutFirst es cut (daa8 len rd (s.withSlots (⟨es, some cut⟩ :: rest))) := by
  unfold daa8
  dsimp only
  split <;> cases cut <;> exact ⟨_, rfl, rfl, rfl⟩

theorem das8_cutFirst (rd : R8) : s.CutFirst es cut (das8 len rd (s.withSlots (⟨es, some cut⟩ :: rest))) := by
  unfold das8
  dsimp only
  split <;> cases cut <;> exact ⟨_, rfl, rfl, rfl⟩

theorem branchLong_cutFirst (x : Cond) (disp : Addr) :
    s.CutFirst es cut (branchLong x disp (s.withSlots (⟨es, some cut⟩ :: rest))) := by
  unfold branchLong
  dsimp only
  split
  · cases cut <;> exact ⟨_, rfl, rfl, rfl⟩
  · refine .drawn ?_ ?_ <;> cases cut <;> exact ⟨_, rfl, rfl, rfl⟩

theorem execMovfpe_cutFirst (he : s.params.eClock = true) (abs : Word) (rd : R8) :
    s.CutFirst es cut (execMovfpeAbs16Rd abs rd (s.withSlots (⟨es, some cut⟩ :: rest))) := by
  rw [execMovfpeAbs16Rd, if_pos (by exact he)]
  refine .drawn ?_ ?_ <;> cases cut <;> exact ⟨_, rfl, rfl, rfl⟩

theorem execMovtpe_cutFirst (he : s.params.eClock = true) (rs : R8) (abs : Word) :
    s.CutFirst es cut (execMovtpeRsAbs16 rs abs (s.withSlots (⟨es, some cut⟩ :: rest))) := by
  rw [execMovtpeRsAbs16, if_pos (by exact he)]
  refine .drawn ?_ ?_ <;> cases cut <;> exact ⟨_, rfl, rfl, rfl⟩

theorem loadPointer_cutFirst (a : Addr) (k : Addr → State → Result) :
    s.CutFirst es cut (loadPointer (s.withSlots (⟨es, some cut⟩ :: rest)) a k) := by
  unfold loadPointer
  split <;> cases cut <;> exact ⟨_, rfl, rfl, rfl⟩

/-- Every instruction, MOVFPE and MOVTPE where there is an E clock: those named decide something before their first
access, the others run straight to it and to the pin. -/
theorem exec_cutFirst (he : s.params.eClock = true) (i : Instr) :
    s.CutFirst es cut (exec i (s.withSlots (⟨es, some cut⟩ :: rest))) := by
  cases i with
  | daaRd => exact daa8_cutFirst _
  | dasRd => exact das8_cutFirst _
  | movfpeAbs16Rd => exact execMovfpe_cutFirst he _ _
  | movtpeRsAbs16 => exact execMovtpe_cutFirst he _ _
  | braD16 => exact branchLong_cutFirst .ra _
  | brnD16 => exact branchLong_cutFirst .rn _
  | bhiD16 | blsD16 | bccD16 | bcsD16 | bneD16 | beqD16 | bvcD16 | bvsD16 | bplD16 | bmiD16 | bgeD16 | bltD16 | bgtD16
  | bleD16 => exact branchLong_cutFirst _ _
  | _ => cases cut <;> exact ⟨_, rfl, rfl, rfl⟩

theorem exceptionEntry_cutFirst (ret : Addr) (vec : Nat) :
    s.CutFirst es cut (exceptionEntry (s.withSlots (⟨es, some cut⟩ :: rest)) ret vec) := by
  cases cut <;> exact ⟨_, rfl, rfl, rfl⟩

theorem resetException_cutFirst : s.CutFirst es cut (resetException (s.withSlots (⟨es, some cut⟩ :: rest))) :=
  loadPointer_cutFirst (s := s.resetEntered) _ _

/-! A longword store abandoned before its last access. -/

/-- An access before which nothing happens, whatever is to happen before later ones. -/
theorem beforeAccess_quiet (hs : s.env.slots = ⟨[], none⟩ :: rest) (k : State → Result) :
    beforeAccess s k = k (s.withSlots rest) := by
  rw [beforeAccess, hs]
  rfl

theorem advance_quiet (hm : s.params.map = []) (hs : s.env.slots = ⟨[], none⟩ :: rest) (k : State → Result) :
    ∃ pc pf, advance len s k = k ((s.withSlots rest).withFetched pc pf) := by
  have hr : (s.withSlots rest).readsComplete := State.reads_ram hm
  refine ⟨s.nextPc len, (s.withSlots rest).read16 .prefetch (s.nextPc len), ?_⟩
  rw [advance, fetchAt, readWord, beforeAccess_quiet hs, checkRead16_of _ _ _ ⟨hr _, hr _⟩,
    State.sawRead16_ram (s.withSlots rest) _ hm]
  rfl

theorem store16_quiet (hm : s.params.map = []) (hs : s.env.slots = ⟨[], none⟩ :: rest) (a : Addr) (v : Word)
    (k : State → Result) : store16 s a v k = k ((s.withSlots rest).write16 a v) := by
  have hw : (s.withSlots rest).writesComplete := State.writes_ram hm
  rw [store16, beforeAccess_quiet hs, checkWrite_of _ _ _ (hw _), checkWrite_of _ _ _ (hw _)]

/-- The first word is written, the second is not. -/
theorem store32_cutLast (hm : s.params.map = []) (hs : s.env.slots = [⟨[], none⟩, ⟨[], some cut⟩]) (a : Addr) (v : Long)
    (k : State → Result) : Abandoned (store32 s a v k) cut (s.write16 a (v.extractLsb' 16 16)).mem := by
  have hmem : ((s.withSlots [⟨[], some cut⟩]).write16 (evenAddr a) (v.extractLsb' 16 16)).mem =
      (s.write16 a (v.extractLsb' 16 16)).mem := by
    rw [State.write16_mem, State.write16_mem, evenAddr_evenAddr]
    rfl
  rw [store32, store16_quiet hm hs, store16, ← hmem]
  exact beforeAccess_cut (State.write16 _ _ _) _ [] cut [] rfl

theorem storeMov32_cutLast (hm : s.params.map = []) (hs : s.env.slots = [⟨[], none⟩, ⟨[], none⟩, ⟨[], some cut⟩])
    (ea : Addr) (v : Long) : Abandoned (storeMov32 len ea v s) cut (s.write16 ea (v.extractLsb' 16 16)).mem := by
  obtain ⟨pc, pf, hfetch⟩ := advance_quiet (len := len) (s := s.withCcr (movFlags s.ccr v)) hm hs
    fun u => store32 u ea v .next
  have hstore := store32_cutLast (s := ((s.withCcr (movFlags s.ccr v)).withSlots
    [⟨[], none⟩, ⟨[], some cut⟩]).withFetched pc pf) hm rfl ea v .next
  rw [storeMov32, hfetch]
  exact hstore

/-- Settles O60: no instruction, entry or reset handling changes memory before its first access, nor looks at what
comes there; MOV.L ERs,@ERd fetches the next word, then writes its two. -/
theorem abandonedByPins : Obligations.AbandonedByPins := by
  refine ⟨fun s es cut rest hs => ⟨fun i he => ?_, fun ret vec => ?_, ?_⟩,
    fun s ers erd cut hm hs => storeMov32_cutLast hm hs _ _⟩
  · exact abandoned_of_cutFirst (exec i) hs (exec_cutFirst he i)
  · exact abandoned_of_cutFirst (exceptionEntry · ret vec) hs (exceptionEntry_cutFirst ret vec)
  · exact abandoned_of_cutFirst resetException hs resetException_cutFirst

end
end Sys2Proof.Machine
end

section
/-! ### Reset exception handling (O53) -/

namespace Sys2Proof.Machine

section
variable {s : State}

theorem State.sample_params (s : State) : s.sample.params = s.params := by rw [s.sample_keeps]

theorem State.sample_mem (s : State) : s.sample.mem = s.mem := by rw [s.sample_keeps]

@[simp] theorem State.sawPointer_mem (s : State) (a : Addr) : (s.sawPointer a).mem = s.mem := by
  obtain ⟨log, h⟩ := s.sawPointer_eq a
  rw [h]

@[simp] theorem State.resetEntered_params (s : State) : s.resetEntered.params = s.params := rfl

/-- The draws of reset exception handling do not depend on what devices saw. -/
theorem State.sawPointer_resetEntered (s : State) (a : Addr) :
    s.resetEntered.sawPointer a = (s.sawPointer a).resetEntered := by
  rw [State.sawPointer, State.sawPointer, State.resetEntered_params]
  cases s.params.mode <;> rfl

@[simp] theorem State.resetEntered_flag_i (s : State) : s.resetEntered.flag .i = true := by
  simp [State.resetEntered, State.flag]

/-- Reset exception handling where memory can be read: the vector, then the word at the start address (R562, R563). -/
theorem resetException_of (hu : s.undisturbed) (hr : s.readsComplete) :
    resetException s = .next ((s.sawPointer s.params.resetVector).resetEntered.atPc
      (s.loadPc (s.pointerAt s.params.resetVector))) := by
  rw [← s.sawPointer_resetEntered]
  exact (resetException_next s _ hu).mpr ⟨hr.canReadPointer, ⟨hr _, hr _⟩, rfl⟩

/-- In the reset state, no pin Low, a step is reset exception handling. -/
theorem step_of_reset (hp : s.proc = .reset) (hs : s.sample.env.stbyLow = false) (hr : s.sample.env.resLow = false) :
    step s = resetException s.sample := by
  rw [step_of_no_pin hs hr (by rw [hp]; decide), stateStep, s.sample_proc, hp]

/-- Settles O53: the machine that `resetException_of` gives, field by field; sampling the inputs changes neither memory
nor the parameters. -/
theorem resetHandling : Obligations.ResetHandling := by
  intro s hp hu hs hres hr start read
  have hnext : step s = .next (read.resetEntered.atPc start) := by
    rw [step_of_reset hp hs hres, resetException_of hu (State.sample_readsComplete hr), s.sample_params,
      State.loadPc_congr s.sample_params]
  have hmem : read.mem = s.mem := (s.sample.sawPointer_mem _).trans s.sample_mem
  have hparams : read.params = s.params := (s.sample.sawPointer_params _).trans s.sample_params
  exact ⟨_, hnext, rfl, read.resetEntered_flag_i, rfl, rfl, rfl, hmem, rfl, hparams⟩

end
end Sys2Proof.Machine
end
